-- ==== Sys2Proof/Word.lean ====
section
/-! DEFINITION. The words of the engine (00_scope.md R13, R14): bytes, the 32-bit command word and the 64-bit
operand and result words. -/

namespace Sys2Proof

/-- A byte: an unsigned 8-bit value (R13). -/
abbrev Byte := BitVec 8

/-- A word written to `CMD`, 32 bits, bit 0 the least significant (R14, R42). -/
abbrev CmdWord := BitVec 32

/-- A word of `OPND` or `RESULT`: `N_W = 64` bits (R8; log 3). -/
abbrev OpWord := BitVec 64

/-- An opaque key token (R47, R88): the engine never looks inside one. -/
abbrev KeyToken := Nat

/-- The collaborator's own error value, never interpreted by the engine (R193, I16). -/
abbrev CollabErrVal := Nat

end Sys2Proof
end

