-- ==== Sys2Proof/Syntax.lean ====
section
/-! DEFINITION. The commands (30_encoding.md R86: one constructor per row of spec/opcode_table.json) and the command
lines of the assembler syntax (R95, R96). -/

namespace Sys2Proof

/-- The eight commands (R86). `k` and `v` are the bits `K` and `V` of INIT (R82, R83), `data` the byte `DATA` of XBYTE
(R84); every other operand is in `OPND` or in a data channel (R88, R89). -/
inductive Instr where
  /-- RESET (R136). -/
  | reset
  /-- INIT (R130). -/
  | init (k v : Bool)
  /-- XBYTE (R145). -/
  | xbyte (data : Byte)
  /-- XBLOCK (R150). -/
  | xblock
  /-- XRANGE (R156). -/
  | xrange
  /-- SKIP (R165). -/
  | skip
  /-- SEEK (R172). -/
  | seek
  /-- GETPOS (R178). -/
  | getpos
  deriving DecidableEq, Repr

/-- A line of a command list as the host writes it: the forms of R95, then the pseudo-commands of R96. Numbers are
as written, so a line can be ill-formed (`Line.wellFormed`). -/
inductive Line where
  /-- `RESET` -/
  | reset
  /-- `INIT iv=<hex bytes>[, key=<token>]` -/
  | init (iv : List Nat) (key : Option KeyToken)
  /-- `INIT noiv[, key=<token>]` -/
  | initNoIv (key : Option KeyToken)
  /-- `XBYTE <byte>` -/
  | xbyte (data : Nat)
  /-- `XBLOCK in=<hex bytes>[, out_cap=<n>]` -/
  | xblock (input : List Nat) (outCap : Option Nat)
  /-- `XRANGE <count>, in=<hex bytes>[, out_cap=<n>]` -/
  | xrange (count : Nat) (input : List Nat) (outCap : Option Nat)
  /-- `SKIP <n>` -/
  | skip (n : Int)
  /-- `SEEK <p>` -/
  | seek (p : Nat)
  /-- `GETPOS` -/
  | getpos
  /-- `.word 0x<hex>` -/
  | word (w : Nat)
  /-- `ENCRYPT <count>, in=…` -/
  | encrypt (count : Nat) (input : List Nat) (outCap : Option Nat)
  /-- `DECRYPT <count>, in=…` -/
  | decrypt (count : Nat) (input : List Nat) (outCap : Option Nat)
  /-- `SETIV iv=<bytes>` -/
  | setIv (iv : List Nat)
  /-- `REKEY iv=<bytes>, key=<k>` -/
  | rekey (iv : List Nat) (key : KeyToken)
  /-- `REWIND` -/
  | rewind
  /-- `SKIPBLK <m>` -/
  | skipBlk (m : Int)
  deriving DecidableEq, Repr

end Sys2Proof
end

