-- ==== Sys2Proof/Decode.lean ====
section
/-! DEFINITION. The command word: fields, decode and encode (30_encoding.md R80 to R94). -/

namespace Sys2Proof

/-- Why a word is ILLEGAL (R90): a reserved opcode (R92), a reserved bit (R85), or a must-be-zero field of a known
opcode (R93). The engine does not tell them apart: each gives `STATUS.ERR = 4`. -/
inductive IllegalReason where
  | reservedOpcode
  | reservedBits
  | dataOutsideXbyte
  | keyOrIvBitOutsideInit
  deriving DecidableEq, Repr

/-- What a word decodes to: "exactly one command or ILLEGAL" (R87). -/
inductive Decoded where
  | command (i : Instr)
  | illegal (why : IllegalReason)
  deriving DecidableEq, Repr

/-- `OP = CMD[3:0]` (R81). -/
def opField (w : CmdWord) : BitVec 4 := w.extractLsb' 0 4

/-- `K = CMD[4]` (R82). -/
def kField (w : CmdWord) : BitVec 1 := w.extractLsb' 4 1

/-- `V = CMD[5]` (R83). -/
def vField (w : CmdWord) : BitVec 1 := w.extractLsb' 5 1

/-- The reserved field `CMD[7:6]` (R85). -/
def lowReservedField (w : CmdWord) : BitVec 2 := w.extractLsb' 6 2

/-- `DATA = CMD[15:8]` (R84). -/
def dataField (w : CmdWord) : Byte := w.extractLsb' 8 8

/-- The reserved field `CMD[31:16]` (R85). -/
def highReservedField (w : CmdWord) : BitVec 16 := w.extractLsb' 16 16

/-- A command whose `K`, `V` and `DATA` must be zero (R93). -/
def decodePlain (w : CmdWord) (i : Instr) : Decoded :=
  if kField w ≠ 0 ∨ vField w ≠ 0 then .illegal .keyOrIvBitOutsideInit
  else if dataField w ≠ 0 then .illegal .dataOutsideXbyte
  else .command i

/-- Decode (R87): total, and it "reads nothing but `w`". -/
def decode (w : CmdWord) : Decoded :=
  if w.getLsbD 3 then .illegal .reservedOpcode
  else if highReservedField w ≠ 0 ∨ lowReservedField w ≠ 0 then .illegal .reservedBits
  else match (opField w).toNat with
    | 0 => decodePlain w .reset
    | 1 =>
      if dataField w ≠ 0 then .illegal .dataOutsideXbyte
      else .command (.init (kField w == 1) (vField w == 1))
    | 2 =>
      if kField w ≠ 0 ∨ vField w ≠ 0 then .illegal .keyOrIvBitOutsideInit
      else .command (.xbyte (dataField w))
    | 3 => decodePlain w .xblock
    | 4 => decodePlain w .xrange
    | 5 => decodePlain w .skip
    | 6 => decodePlain w .seek
    | 7 => decodePlain w .getpos
    | _ => .illegal .reservedOpcode

/-- The word with the given fields, the reserved fields zero (R80). -/
def assembleWord (data : Byte) (v k : Bool) (op : BitVec 4) : CmdWord :=
  (0 : BitVec 16) ++ data ++ (0 : BitVec 2) ++ BitVec.ofBool v ++ BitVec.ofBool k ++ op

/-- Encode: the word of each command (R86). -/
def encode : Instr → CmdWord
  | .reset => assembleWord 0 false false 0
  | .init k v => assembleWord 0 v k 1
  | .xbyte data => assembleWord data false false 2
  | .xblock => assembleWord 0 false false 3
  | .xrange => assembleWord 0 false false 4
  | .skip => assembleWord 0 false false 5
  | .seek => assembleWord 0 false false 6
  | .getpos => assembleWord 0 false false 7

/-- The `match` and `mask` columns of R86 for the row of a command: a word `w` selects the row when
`(w &&& mask) = match`. -/
def tableRow : Instr → CmdWord × CmdWord
  | .reset => (0x00000000, 0xFFFFFFFF)
  | .init _ _ => (0x00000001, 0xFFFFFFCF)
  | .xbyte _ => (0x00000002, 0xFFFF00FF)
  | .xblock => (0x00000003, 0xFFFFFFFF)
  | .xrange => (0x00000004, 0xFFFFFFFF)
  | .skip => (0x00000005, 0xFFFFFFFF)
  | .seek => (0x00000006, 0xFFFFFFFF)
  | .getpos => (0x00000007, 0xFFFFFFFF)

/-- `w` selects the row of `i`'s mnemonic in R86's opcode map. -/
def selectsRow (w : CmdWord) (i : Instr) : Bool := (w &&& (tableRow i).2) == (tableRow i).1

/-- The instruction this decoder reads from a table row's `nbits` bits `w` (R94: every command is one 32-bit word, so
bits above `nbits` are zero and no row has more than 32). -/
def decodeTableWord (nbits w : Nat) : Option Instr :=
  if nbits ≤ 32 then
    match decode (BitVec.ofNat 32 (w % 2 ^ nbits)) with
    | .command i => some i
    | .illegal _ => none
  else none

end Sys2Proof
end

