-- ==== Sys2Proof/Config.lean ====
section
/-! DEFINITION. What an implementation fixes (the parameters of 00_scope.md section 3 and 92_eei_decisions.md) and the
free values the spec leaves open. The parameters are plain data, so that a state can carry them and a statement about
every state is a statement about every engine; the free values have no body, so that nothing can be proved of one. -/

namespace Sys2Proof

/-- How the negative branch of the skip algorithm divides (R11): `floor` is the default and normative value, `trunc`
the documented deviation (R124, 90_conflicts.md C1). -/
inductive NegSkipDiv where
  | floor
  | trunc
  deriving DecidableEq, Repr

/-- Which collaborator is connected (R3, R12, R218 step 1). A state is plain data and cannot hold the function
`E_key`, so this names one; `Machine.eKey` is the function it names (log 4). -/
inductive Collaborator where
  /-- Any block cipher whatever: its transform and its failures are uninterpreted constants below. -/
  | external (id : Nat)
  /-- The identity collaborator ID of 95_test_vectors.md: `E_key(A) = A`. -/
  | identity
  /-- The collaborator MARK of 95_test_vectors.md: `E_key(A)[i] = A[i] xor (17 * i mod 256)`. -/
  | mark
  /-- The collaborator FAILc of 95_test_vectors.md: like ID, but `processBlock` fails when `be(A) = c`. That file gives the
  failure no error value: that it is the number `c` is a DESIGN CHOICE (log 4). -/
  | failAt (c : Nat)
  /-- Like ID, but every `init` fails with the value `e` (failure injection, D19). -/
  | failInit (e : CollabErrVal)
  /-- Like ID, but every `reset` fails with the value `e` (failure injection, D19). -/
  | failReset (e : CollabErrVal)
  deriving DecidableEq, Repr

/-- `REG_OFFSETS`: the bus offsets of the interface registers, "chosen by the platform" (20_memory.md R70;
92_eei_decisions.md D18; 93_implementation_defined.md I24). -/
structure RegOffsets where
  cmd : Nat
  opnd : Nat
  result : Nat
  status : Nat
  deriving DecidableEq, Repr

/-- The parameters a model takes (92_eei_decisions.md, "Parameters a model takes"), fixed when the engine is built
(R6, R215). `N_W` and `POS_W` are fixed at 64 (log 3). -/
structure Config where
  /-- `BS`, the block size in bytes (R6); a real engine has `1 ≤ blockSize`. -/
  blockSize : Nat
  /-- `POS_WINDOW_BYTES` (R9). -/
  posWindowBytes : Nat
  /-- `NEG_SKIP_DIV` (R11). -/
  negSkipDiv : NegSkipDiv
  /-- The connected collaborator, standing for `E_key` (R12). -/
  collaborator : Collaborator
  /-- Whether the platform provides a hardware reset input (R216, I25). -/
  hasResetInput : Bool
  /-- `REG_OFFSETS` (R70). No command depends on it; `Machine.registerAt` reads it. -/
  regOffsets : RegOffsets
  deriving DecidableEq, Repr

/-- The parameters `State.reset` is built with: the spec's defaults for `POS_WINDOW_BYTES` and `NEG_SKIP_DIV` (R9,
R11); `BS = 16` (the source's worked example), an uninterpreted collaborator, a reset input and the register offsets are
DESIGN CHOICEs (log 2). No statement rests on this value: statements hold for every `Config`. -/
def Config.default : Config :=
  { blockSize := 16, posWindowBytes := 8, negSkipDiv := .floor, collaborator := .external 0, hasResetInput := true
    regOffsets := { cmd := 0, opnd := 8, result := 16, status := 24 } }

/-- Free value: whether the external collaborator `id` fails on a block, and with which error value. It depends on the
key and the block alone (R12: the answer depends on the input block and the key, and on nothing else). -/
opaque Config.cipherFailure (id : Nat) (key : KeyToken) (block : List Byte) : Option CollabErrVal

/-- Free value: byte `i` of the block that the external collaborator `id` answers (R12). -/
opaque Config.cipherByte (id : Nat) (key : KeyToken) (block : List Byte) (i : Nat) : Byte

/-- Free value: whether the `n`-th open choice makes `init` of the external collaborator `id` fail (R130, log 5). -/
opaque Config.initFailure (id : Nat) (key : KeyToken) (n : Nat) : Option CollabErrVal

/-- Free value: whether the `n`-th open choice makes `reset` of the external collaborator `id` fail (R136, log 5). -/
opaque Config.resetFailure (id : Nat) (n : Nat) : Option CollabErrVal

/-- Free value: byte `i` of the block that `KS` holds after a CollaboratorError (R196, I3: any value; log 6). -/
opaque Config.freeByte (n : Nat) (i : Nat) : Byte

/-- Free value: the key the collaborator holds after a failed `init` (the spec states none; log 7). -/
opaque Config.freeKey (n : Nat) : Option KeyToken

/-- Free value: the collaborator's internal buffering after a call that does not clear it (R47, I6; log 8). -/
opaque Config.freeBuffering (n : Nat) : List Byte

/-- Free value: `zext_64(BS)` for a `BS` of `2^64` or more, which the spec does not state (R44; log 17). -/
opaque Config.wideBlockSizeWord (blockSize : Nat) : OpWord

end Sys2Proof
end

