-- ==== Sys2Proof/Machine/State.lean ====
section
/-! DEFINITION. The state of the engine (10_state.md), of the collaborator as the spec describes it (R47) and of the
host's side of the interface (R88), as plain data; the reasons a step can stop; the state at power-on (R49). -/

namespace Sys2Proof.Machine

/-- A register that can be `uninit` (R21): the spec's own power-on value (R49), which is no number. -/
inductive Reg (α : Type) where
  | uninit
  | val (a : α)
  deriving DecidableEq, Repr

/-- The key state of the collaborator (R47): `absent`, or an opaque token. -/
inductive KeyState where
  | absent
  | token (k : KeyToken)
  deriving DecidableEq, Repr

/-- A call made at the collaborator port (R18). `forEncryption` is the direction INIT passes (R131). -/
inductive CollabCall where
  | init (forEncryption : Bool) (key : KeyToken)
  | reset
  | process (block : List Byte)
  deriving DecidableEq, Repr

/-- The data channels the host supplies for one command (R88): `iv_len` and `in_len` are the lengths of the lists
(log 14). -/
structure Channels where
  /-- The IV channel (INIT with `V = 1`): `ivbytes`. -/
  iv : List Byte
  /-- The KEY channel (INIT with `K = 1`). -/
  key : KeyToken
  /-- The IN channel (XBLOCK, XRANGE). -/
  input : List Byte
  /-- The OUT channel's `out_cap` (XBLOCK, XRANGE). -/
  outCap : Nat
  deriving DecidableEq, Repr

/-- The channels of a command for which the host supplies nothing. -/
def Channels.none : Channels := { iv := [], key := 0, input := [], outCap := 0 }

/-- One access of the host to the engine (10_state.md R42 to R45, 20_memory.md R69, 70_reset_and_hazards.md R216). -/
inductive HostAction where
  /-- A write to `CMD`: issues one command, with its channels (R42, R88). -/
  | writeCmd (w : CmdWord) (ch : Channels)
  /-- A write to `OPND` (R43). -/
  | writeOpnd (v : OpWord)
  /-- A write to `RESULT`, which the host may not write (R44, I12). -/
  | writeResult (v : OpWord)
  /-- A write to `STATUS`, which is ignored (R45). -/
  | writeStatus (v : BitVec 32)
  /-- A read of `CMD`, which is not defined (R42, I11). -/
  | readCmd
  /-- A read of `OPND` (R43). -/
  | readOpnd
  /-- A read of `RESULT` (R44). -/
  | readResult
  /-- A read of `STATUS` (R45). -/
  | readStatus
  /-- A pulse on the hardware reset input (R216). -/
  | resetInput
  deriving DecidableEq, Repr

/-- The whole state. INVENTORY.md, "State", gives each field's rule, width and reset value. -/
structure State where
  /-- The parameters the engine is built with; no step writes them (R6, R215). -/
  cfg : Config
  /-- `IV`, index 0 the most significant byte (R32, R36). -/
  iv : Reg (List Byte)
  /-- `CTR`, index 0 the most significant byte (R33, R36). -/
  ctr : Reg (List Byte)
  /-- `KS`, index 0 consumed first (R34, R36). -/
  ks : Reg (List Byte)
  /-- `CUR` (R35). -/
  cur : Reg Nat
  /-- `CMD`: the last word written; no command reads it (R42). -/
  cmd : CmdWord
  /-- `OPND` (R43). -/
  opnd : Reg OpWord
  /-- `RESULT` (R44). -/
  result : Reg OpWord
  /-- `STATUS.ERR` (R45); `STATUS[31:3]` is hard-wired and stands in `statusWord`. -/
  err : BitVec 3
  /-- The collaborator's key state (R47). -/
  key : KeyState
  /-- The collaborator's internal buffering, opaque; no engine rule reads it (R47, I6). -/
  buffering : List Byte
  /-- `FAULT`, the model-only marker (R48). -/
  faultMark : Bool
  /-- An INIT has completed without error since power-on: "the first successful INIT" of R52, R218 (log 24). -/
  initDone : Bool
  /-- The channels of the command in `CMD` (R88). -/
  chan : Channels
  /-- The bytes the command in `CMD` has delivered on OUT, byte `i` at index `i` (R17). -/
  out : List Byte
  /-- The collaborator's error value that goes to the host beside `STATUS.ERR = 3` (R193). -/
  collabErr : Option CollabErrVal
  /-- The host's index into its list of commands: commands completed so far (R31). -/
  cmdIndex : Nat
  /-- MODEL'S OWN: the host accesses still to come, the next one first (log 12). -/
  host : List HostAction
  /-- MODEL'S OWN: what the host's last register read returned (log 16). -/
  hostData : Reg OpWord
  /-- MODEL'S OWN: the calls made at the collaborator port, the latest first (log 20). -/
  calls : List CollabCall
  /-- MODEL'S OWN: selects the next free value (log 6). -/
  freeCount : Nat
  deriving DecidableEq, Repr

/-- A state element that can be `uninit` and that a command reads (R21). -/
inductive Element where
  | iv
  | ctr
  | ks
  | cur
  | opnd
  deriving DecidableEq, Repr

/-- Why the model stops with no result state. -/
inductive Fault where
  /-- A command reads an `uninit` element (R21, R203 item 1; 93_implementation_defined.md I1, treatment `fault`). Raised by
  every command but INIT before the first good INIT, and by XRANGE, SKIP and SEEK while `OPND` was never written. Safe:
  the model gives no state. -/
  | uninitRead (e : Element)
  /-- RESET or SEEK after an INIT that a CollaboratorError aborted, with no INIT completed yet: "Until step 2 succeeds, every
  command other than INIT or an ILLEGAL word is a model fault" (R218, I1; log 24). Raised by `resetAfterInit`. Safe: the
  model gives no state. -/
  | beforeInit
  /-- A keystream load while the collaborator key is `absent` (R203 item 2, I2). Raised by KSLOAD. Safe: the model
  gives no state. -/
  | keyAbsent
  /-- A read of `KS` at an index it does not have (R60: indexed by `i` in `[0, BS)`). Raised by the XOR datapath, only
  in states that R37 excludes and no run reaches (log 18). Safe. -/
  | noSuchByte (i : Nat)
  deriving DecidableEq, Repr

/-- Why the model gives an event no transition. -/
inductive Refusal where
  /-- An instruction without a meaning. Raised by an arm of `exec` only; no arm does. Safe. -/
  | notModelled (mnemonic : String)
  /-- A host read of `CMD`: "Reading `CMD` is not defined: a model refuses it" (R42, I11). Raised by the host
  interface, by no command. Safe. -/
  | readOfCmd
  /-- A pulse on a reset input that the platform does not provide (R216, I25). Raised by the host interface, by no
  command. Safe. -/
  | noResetInput
  deriving DecidableEq, Repr

/-- The state at power-on of an engine built with the parameters `c` (R49, R215): the spec's own values, and for the
elements R49 does not list the values of log 6, 8, 11, 12, 14, 15, 16, 19, 20 and 24. -/
def State.powerOn (c : Config) : State :=
  { cfg := c
    iv := .uninit
    ctr := .uninit
    ks := .uninit
    cur := .uninit
    cmd := 0
    opnd := .uninit
    result := .uninit
    err := 0
    key := .absent
    buffering := []
    faultMark := false
    initDone := false
    chan := Channels.none
    out := []
    collabErr := none
    cmdIndex := 0
    host := []
    hostData := .uninit
    calls := []
    freeCount := 0 }

/-- The machine right after reset: power-on (R49) of an engine with the default parameters (log 2). -/
def State.reset : State := State.powerOn Config.default

end Sys2Proof.Machine
end

