-- ==== Sys2Proof/Machine/Counter.lean ====
section
/-! DEFINITION. The counter unit and the window of the position unit (40_counter_arith.md R105 to R117): pure functions
on byte buffers, written as the carry and borrow chains of the rules. Index 0 is the most significant byte, so each
chain runs from the end of the list to its head. -/

namespace Sys2Proof.Machine

/-- `be(A)`: the unsigned big-endian value of a buffer (R13). -/
def be : List Byte → Nat
  | [] => 0
  | b :: rest => b.toNat * 256 ^ rest.length + be rest

/-- The `n` base-256 digits of `v` modulo `256^n`, most significant first. -/
def digits : Nat → Nat → List Byte
  | 0, _ => []
  | n + 1, v => BitVec.ofNat 8 (v / 256 ^ n) :: digits n v

/-- `2^CW = 256^BS`, the number of counter values (R7). -/
def counterSpace (blockSize : Nat) : Nat := 2 ^ (8 * blockSize)

/-- `bytes(v)`: the `BS`-byte buffer with `be = v mod 2^CW`, for every integer `v` (R13). -/
def bytesOf (blockSize : Nat) (v : Int) : List Byte := digits blockSize (v % (counterSpace blockSize : Int)).toNat

/-- INC's chain (R106): the new bytes, and whether every byte wrapped (a carry out of the head). -/
def incChain : List Byte → Bool × List Byte
  | [] => (true, [])
  | b :: rest =>
    let r := incChain rest
    if r.1 then (b + 1 == 0, (b + 1) :: r.2) else (false, b :: r.2)

/-- INC(A) (R106). -/
def inc (a : List Byte) : List Byte := (incChain a).2

/-- DEC's chain (R108): the new bytes, and whether every byte underflowed (a borrow out of the head). -/
def decChain : List Byte → Bool × List Byte
  | [] => (true, [])
  | b :: rest =>
    let r := decChain rest
    if r.1 then (b == 0, (b - 1) :: r.2) else (false, b :: r.2)

/-- DEC(A) (R108). -/
def dec (a : List Byte) : List Byte := (decChain a).2

/-- The carry chain of ADDN over the digits `d` (R110): the carry out of the head, and the sum bytes. -/
def addChain : List Byte → List Byte → Nat × List Byte
  | a :: as, d :: ds =>
    let r := addChain as ds
    let s := a.toNat + d.toNat + r.1
    (s / 256, BitVec.ofNat 8 (s % 256) :: r.2)
  | _, _ => (0, [])

/-- The borrow chain of SUBN and DIFF over the digits `d` (R112, R114): the borrow out of the head, and the bytes. -/
def subChain : List Byte → List Byte → Nat × List Byte
  | a :: as, d :: ds =>
    let r := subChain as ds
    let s : Int := (a.toNat : Int) - d.toNat - r.1
    (if s < 0 then 1 else 0, BitVec.ofNat 8 (s % 256).toNat :: r.2)
  | _, _ => (0, [])

/-- ADDN(A, k) for `k >= 0` (R110): `kk = k mod 2^CW`, and the carry out of byte 0 is discarded. -/
def addNat (a : List Byte) (k : Nat) : List Byte := (addChain a (digits a.length (k % counterSpace a.length))).2

/-- SUBN(A, k) for `k >= 0` (R112): the borrow out of byte 0 is discarded. -/
def subNat (a : List Byte) (k : Nat) : List Byte := (subChain a (digits a.length (k % counterSpace a.length))).2

/-- ADDN(A, k) for every integer `k`: for `k < 0` it is SUBN(A, -k) (R110). -/
def addn (a : List Byte) (k : Int) : List Byte := if 0 ≤ k then addNat a k.toNat else subNat a (-k).toNat

/-- SUBN(A, k) for every integer `k`: for `k < 0` it is ADDN(A, -k) (R112). -/
def subn (a : List Byte) (k : Int) : List Byte := if 0 ≤ k then subNat a k.toNat else addNat a (-k).toNat

/-- DIFF(C, I) (R114): the borrow out of byte 0 is discarded. -/
def diff (c i : List Byte) : List Byte := (subChain c i).2

/-- WINDOW(R) (R116): the value of the low `POS_WINDOW_BYTES` bytes of a difference. -/
def window (posWindowBytes : Nat) (r : List Byte) : Nat := be r % 2 ^ (8 * posWindowBytes)

/-- `nb` of the negative skip branch (R122): floor division, or division truncated toward zero (R11, R15). -/
def negSkipQuotient (d : NegSkipDiv) (total : Int) (blockSize : Nat) : Int :=
  match d with
  | .floor => Int.fdiv total blockSize
  | .trunc => Int.tdiv total blockSize

/-- SKIPADJ(n) for `n >= 0` (R121): the new counter and cursor. -/
def skipForward (blockSize : Nat) (n : Nat) (ctr : List Byte) (cur : Nat) : List Byte × Nat :=
  let total := n + cur
  let nb := total / blockSize
  (addn ctr nb, total - blockSize * nb)

/-- SKIPADJ(n) for `n < 0` once `nb` is known (R122): `CTR <- SUBN(CTR, nb)`, then the gap decides the cursor. -/
def skipBackwardBy (blockSize : Nat) (n nb : Int) (ctr : List Byte) (cur : Nat) : List Byte × Nat :=
  let gap : Int := cur + n + blockSize * nb
  if 0 ≤ gap then (subn ctr nb, 0) else (dec (subn ctr nb), (blockSize + gap).toNat)

/-- SKIPADJ(n) for `n < 0` (R122): the new counter and cursor, with `total = -n - CUR`. -/
def skipBackward (blockSize : Nat) (d : NegSkipDiv) (n : Int) (ctr : List Byte) (cur : Nat) : List Byte × Nat :=
  skipBackwardBy blockSize n (negSkipQuotient d (-n - cur) blockSize) ctr cur

/-- SKIPADJ(n), both branches (R121, R122). Every intermediate value is exact (D7). -/
def skipTarget (c : Config) (n : Int) (ctr : List Byte) (cur : Nat) : List Byte × Nat :=
  if 0 ≤ n then skipForward c.blockSize n.toNat ctr cur else skipBackward c.blockSize c.negSkipDiv n ctr cur

end Sys2Proof.Machine
end

