-- ==== Sys2Proof/Machine/Flags.lean ====
section
/-! DEFINITION. The one status field. The engine has no condition codes (R46); `STATUS.ERR` is the outcome code of the
most recently completed command (R45, R190). -/

namespace Sys2Proof.Machine

/-- The outcomes of a command that `STATUS.ERR` reports (R190). -/
inductive Err where
  | ok
  | config
  | length
  | collab
  | illegal
  deriving DecidableEq, Repr

/-- The code of an outcome (R190); codes 5 to 7 are never written. -/
def errCode : Err → BitVec 3
  | .ok => 0
  | .config => 1
  | .length => 2
  | .collab => 3
  | .illegal => 4

/-- `STATUS.ERR <- e` (R45, R190). -/
def State.setErr (e : Err) (s : State) : State := { s with err := errCode e }

/-- The word the host reads from `STATUS`: `ERR` in [2:0], and [31:3] "reads as zero" (R45). -/
def statusWord (s : State) : BitVec 32 := (0 : BitVec 29) ++ s.err

end Sys2Proof.Machine
end

