-- ==== Sys2Proof/Machine/Operands.lean ====
section
/-! DEFINITION. How the commands read their operands (30_encoding.md R88, R89) and form the word they write to `RESULT`
(10_state.md R44). -/

namespace Sys2Proof.Machine

/-- SKIP's operand `n = sint(OPND)` (R89). -/
def skipOffset (w : OpWord) : Int := w.toInt

/-- SEEK's operand `position = uint(OPND)`, unsigned over the whole range (R89, R173). -/
def seekPosition (w : OpWord) : Nat := w.toNat

/-- XRANGE's operand `count = uint(OPND)` (R89). -/
def rangeCount (w : OpWord) : Nat := w.toNat

/-- A channel holds fewer bytes than the command moves (R150, R156): `in_len < n or out_cap < n`. -/
def shortChannel (ch : Channels) (n : Nat) : Bool := decide (ch.input.length < n) || decide (ch.outCap < n)

/-- INIT's check (R130): the parameter object carries no IV, or `iv_len != BS`. -/
def badIv (v : Bool) (ch : Channels) (blockSize : Nat) : Bool := !v || decide (ch.iv.length ≠ blockSize)

/-- XBYTE's result word, `zext_64(output byte)` (R44). -/
def byteResult (o : Byte) : OpWord := o.setWidth 64

/-- XBLOCK's result word, `zext_64(BS)` (R44); a free value where `BS` does not fit 64 bits (log 17). -/
def blockSizeResult (blockSize : Nat) : OpWord :=
  if blockSize < 2 ^ 64 then BitVec.ofNat 64 blockSize else Config.wideBlockSizeWord blockSize

/-- GETPOS's result word, `(W * BS + CUR) mod 2^POS_W` (R178, R179). -/
def positionResult (w blockSize cur : Nat) : OpWord := BitVec.ofNat 64 (w * blockSize + cur)

end Sys2Proof.Machine
end

