-- ==== Sys2Proof/Machine/Ops.lean ====
section
/-! DEFINITION. The shared operations: what a statement of the spec's pseudocode can do (00_scope.md R16 to R21), the
collaborator port (R18, R47), the keystream unit (R118 to R120), the skip adjustment (R121, R122), RESET_BODY (R136),
BYTE_BODY (R145) and the end of a command (R190). There is no trap entry and no return from one (R205, R206): an error
is `raised`, and `finish` records it. -/

namespace Sys2Proof.Machine

/-- What running part of a command gives: a value and the state reached; an error raised, with the state written
before it (R19); or a model fault, with no state (R203). -/
inductive Res (α : Type) where
  | ok (a : α) (s : State)
  | raised (e : Err) (s : State)
  | stop (f : Fault)

/-- The next statements of the command; after a `raise` "later statements of the command are not performed" (R19). -/
def Res.bind {α β : Type} (r : Res α) (k : α → State → Res β) : Res β :=
  match r with
  | .ok a s => k a s
  | .raised e s => .raised e s
  | .stop f => .stop f

/-- Reading a register in an expression: a model fault while it is `uninit` (R21). -/
def readReg {α β : Type} (e : Element) (r : Reg α) (k : α → Res β) : Res β :=
  match r with
  | .uninit => .stop (.uninitRead e)
  | .val a => k a

/-- The end of a command: `STATUS.ERR` is written exactly once, "at the moment the command completes or aborts"
(R190). A model fault has no result state (R203). -/
def finish (r : Res Unit) : Host.Outcome State Fault Refusal :=
  match r with
  | .ok _ s => .next (s.setErr .ok)
  | .raised e s => .next (s.setErr e)
  | .stop f => .fault f

/-- `IV <- a` (R130). -/
def State.setIv (a : List Byte) (s : State) : State := { s with iv := .val a }

/-- `CTR <- a` (R33). -/
def State.setCtr (a : List Byte) (s : State) : State := { s with ctr := .val a }

/-- `KS <- a` (R118). -/
def State.setKs (a : List Byte) (s : State) : State := { s with ks := .val a }

/-- `CUR <- c` (R35). -/
def State.setCur (c : Nat) (s : State) : State := { s with cur := .val c }

/-- An INIT has completed without error (R52, R218; log 24). -/
def State.setInitDone (s : State) : State := { s with initDone := true }

/-- `RESULT <- w` (R44). -/
def State.setResult (w : OpWord) (s : State) : State := { s with result := .val w }

/-- `MemWrite(OUT, i, 1, b)` for the next index `i` (R17, R64). -/
def State.deliver (b : Byte) (s : State) : State := { s with out := s.out ++ [b] }

/-- A call at the collaborator port, which may leave any internal buffering (R47, I6; log 8). -/
def State.noteCall (c : CollabCall) (s : State) : State :=
  { s with calls := c :: s.calls, buffering := Config.freeBuffering s.freeCount, freeCount := s.freeCount + 1 }

/-- The collaborator's internal buffering is cleared (R47: `CallReset()` clears it). -/
def State.clearBuffering (s : State) : State := { s with buffering := [] }

/-- The key state the collaborator takes from a successful `CallInit(key)` (R47). -/
def State.setKey (k : KeyToken) (s : State) : State := { s with key := .token k }

/-- A key state of which nothing is known: after a failed `CallInit` (log 7). -/
def State.loseKey (s : State) : State :=
  { s with
    key := (match Config.freeKey s.freeCount with
            | none => .absent
            | some k => .token k)
    freeCount := s.freeCount + 1 }

/-- A block of which nothing is known but its length (I3, R37; log 6). -/
def freeBlock (blockSize n : Nat) : List Byte := (List.range blockSize).map (Config.freeByte n)

/-- `KS` is unspecified: any `BS` bytes (R196, I3; log 6). -/
def State.loseKs (s : State) : State :=
  { s with ks := .val (freeBlock s.cfg.blockSize s.freeCount), freeCount := s.freeCount + 1 }

/-- What a CollaboratorError leaves besides `STATUS.ERR`: `FAULT` is set (R197) and the collaborator's own value goes to
the host as it is (R193). -/
def State.markCollab (v : CollabErrVal) (s : State) : State := { s with faultMark := true, collabErr := some v }

/-- `raise CollaboratorError` with the collaborator's own value (R193, R197); `finish` writes `STATUS.ERR <- 3`. -/
def raiseCollab {α : Type} (v : CollabErrVal) (s : State) : Res α := .raised .collab (s.markCollab v)

/-- What the collaborator answers to `processBlock` (R12): `BS` bytes, or a failure with its own value. -/
inductive Answer where
  | block (b : List Byte)
  | failed (v : CollabErrVal)
  deriving DecidableEq, Repr

/-- MARK's transform from index `i` on (95_test_vectors.md): byte `i` is `A[i] xor (17 * i mod 256)`. -/
def markFrom : Nat → List Byte → List Byte
  | _, [] => []
  | i, b :: rest => (b ^^^ BitVec.ofNat 8 (17 * i)) :: markFrom (i + 1) rest

/-- `E_key(A)`: the connected collaborator's transform (R12). It reads the key and the block alone. The error value with which
FAILc fails is a DESIGN CHOICE (log 4). -/
def eKey (c : Config) (k : KeyToken) (a : List Byte) : Answer :=
  match c.collaborator with
  | .external id =>
    match Config.cipherFailure id k a with
    | some v => .failed v
    | none => .block ((List.range c.blockSize).map (Config.cipherByte id k a))
  | .identity => .block a
  | .mark => .block (markFrom 0 a)
  | .failAt n => if be a = n then .failed n else .block a
  | .failInit _ => .block a
  | .failReset _ => .block a

/-- Whether `CallInit(key)` fails, and with which value; `n` selects the free value (R130, log 5). -/
def initFailure (c : Config) (k : KeyToken) (n : Nat) : Option CollabErrVal :=
  match c.collaborator with
  | .external id => Config.initFailure id k n
  | .identity => none
  | .mark => none
  | .failAt _ => none
  | .failInit e => some e
  | .failReset _ => none

/-- Whether `CallReset()` fails, and with which value; `n` selects the free value (R136, log 5). -/
def resetFailure (c : Config) (n : Nat) : Option CollabErrVal :=
  match c.collaborator with
  | .external id => Config.resetFailure id n
  | .identity => none
  | .mark => none
  | .failAt _ => none
  | .failInit _ => none
  | .failReset e => some e

/-- `CallInit(key)`: the collaborator's `init(forEncryption = true, key)` (R18, R131). -/
def callInit (k : KeyToken) (s : State) : Res Unit :=
  let s1 := s.noteCall (.init true k)
  match initFailure s.cfg k s.freeCount with
  | none => .ok () (s1.setKey k)
  | some v => raiseCollab v s1.loseKey

/-- `CallReset()`: the collaborator's `reset()` (R18, R47). -/
def callReset (s : State) : Res Unit :=
  let s1 := s.noteCall .reset
  match resetFailure s.cfg s.freeCount with
  | none => .ok () s1.clearBuffering
  | some v => raiseCollab v s1

/-- KSLOAD, the keystream load (R118): one `processBlock` call on `CTR`. On a CollaboratorError `KS` is unspecified;
with `CTR` `uninit` or the key `absent` it is a model fault (R203). -/
def ksload (s : State) : Res Unit :=
  readReg .ctr s.ctr fun ctr =>
    match s.key with
    | .absent => .stop .keyAbsent
    | .token k =>
      let s1 := s.noteCall (.process ctr)
      match eKey s.cfg k ctr with
      | .block b => .ok () (s1.setKs b)
      | .failed v => raiseCollab v s1.loseKs

/-- The XOR datapath (R119): `KS[CUR] xor b`; no state is written. -/
def xorByte (b : Byte) (s : State) : Res Byte :=
  readReg .ks s.ks fun ks =>
    readReg .cur s.cur fun cur =>
      match ks[cur]? with
      | some k => .ok (k ^^^ b) s
      | none => .stop (.noSuchByte cur)

/-- ADVANCE, the cursor advance (R120). -/
def advance (s : State) : Res Unit :=
  readReg .cur s.cur fun cur =>
    if cur + 1 = s.cfg.blockSize then
      readReg .ctr s.ctr fun ctr => .ok () ((s.setCur 0).setCtr (inc ctr))
    else .ok () (s.setCur (cur + 1))

/-- SKIPADJ(n) (R121, R122): no keystream is produced and no collaborator call is made. -/
def skipAdj (n : Int) (s : State) : Res Unit :=
  readReg .cur s.cur fun cur =>
    readReg .ctr s.ctr fun ctr =>
      let t := skipTarget s.cfg n ctr cur
      .ok () ((s.setCtr t.1).setCur t.2)

/-- RESET_BODY (R136): `CTR <- IV`, then the collaborator's reset, then `CUR <- 0`. -/
def resetBody (s : State) : Res Unit :=
  readReg .iv s.iv fun iv =>
    (callReset (s.setCtr iv)).bind fun _ s1 => .ok () (s1.setCur 0)

/-- RESET_BODY as RESET and SEEK run it: a model fault while `IV` is `uninit` (R136), and, where an aborted INIT has written
`IV`, until an INIT completes (R218; log 24). -/
def resetAfterInit (s : State) : Res Unit :=
  readReg .iv s.iv fun _ => if s.initDone then resetBody s else .stop .beforeInit

/-- BYTE_BODY(b), the body of every transform command (R145): load a block when `CUR = 0`, XOR, advance. -/
def byteBody (b : Byte) (s : State) : Res Byte :=
  readReg .cur s.cur fun cur =>
    (if cur = 0 then ksload s else .ok () s).bind fun _ s1 =>
      (xorByte b s1).bind fun o s2 =>
        (advance s2).bind fun _ s3 => .ok o s3

/-- The loop of XBLOCK and XRANGE (R150, R156): each input byte in order gives the next output byte. -/
def transformBytes : List Byte → State → Res Unit
  | [], s => .ok () s
  | b :: rest, s => (byteBody b s).bind fun o s1 => transformBytes rest (s1.deliver o)

/-- XBLOCK and XRANGE after their operands are known (R150, R156): the length check before every effect (R151, R157),
the loop over the first `n` input bytes (D21), and `RESULT <- w`. Their operands `CUR` and `CTR` are read first: every
command but INIT is a model fault before the first good INIT (R218; log 13). -/
def transformStream (n : Nat) (w : OpWord) (s : State) : Res Unit :=
  readReg .cur s.cur fun _ =>
    readReg .ctr s.ctr fun _ =>
      if shortChannel s.chan n then .raised .length s
      else (transformBytes (s.chan.input.take n) s).bind fun _ s1 => .ok () (s1.setResult w)

end Sys2Proof.Machine
end

