-- ==== Sys2Proof/Machine/InitReset.lean ====
section
/-! DEFINITION. The configuration commands RESET and INIT (41_init_reset.md). -/

namespace Sys2Proof.Machine

/-- RESET (R136). -/
def execReset (s : State) : Host.Outcome State Fault Refusal := finish (resetAfterInit s)

/-- INIT (R130): the checks before any effect (R133), then IV copy, key forward, RESET body, in that order (R135). -/
def execInit (k v : Bool) (s : State) : Host.Outcome State Fault Refusal :=
  if badIv v s.chan s.cfg.blockSize then finish (.raised .config s)
  else
    let s1 := s.setIv s.chan.iv
    finish ((if k then callInit s.chan.key s1 else .ok () s1).bind fun _ s2 =>
      (resetBody s2).bind fun _ s3 => .ok () s3.setInitDone)

end Sys2Proof.Machine
end

