-- ==== Sys2Proof/Machine/Position.lean ====
section
/-! DEFINITION. The position commands SKIP, SEEK and GETPOS (43_position.md). -/

namespace Sys2Proof.Machine

/-- SKIP (R165): the adjustment, the eager keystream load (R166), `RESULT <- OPND`. -/
def execSkip (s : State) : Host.Outcome State Fault Refusal :=
  finish (readReg .opnd s.opnd fun w =>
    (skipAdj (skipOffset w) s).bind fun _ s1 =>
      (ksload s1).bind fun _ s2 => .ok () (s2.setResult w))

/-- SEEK (R172): RESET body, the adjustment by the unsigned position (R173), the eager keystream load, `RESULT <- OPND`. -/
def execSeek (s : State) : Host.Outcome State Fault Refusal :=
  finish (readReg .opnd s.opnd fun w =>
    (resetAfterInit s).bind fun _ s1 =>
      (skipAdj (seekPosition w : Int) s1).bind fun _ s2 =>
        (ksload s2).bind fun _ s3 => .ok () (s3.setResult w))

/-- GETPOS (R178): no collaborator call, no write but `RESULT` and `STATUS.ERR`. -/
def execGetpos (s : State) : Host.Outcome State Fault Refusal :=
  finish (readReg .ctr s.ctr fun ctr =>
    readReg .iv s.iv fun iv =>
      readReg .cur s.cur fun cur =>
        .ok () (s.setResult (positionResult (window s.cfg.posWindowBytes (diff ctr iv)) s.cfg.blockSize cur)))

end Sys2Proof.Machine
end

