-- ==== Sys2Proof/Machine/Transform.lean ====
section
/-! DEFINITION. The transform commands XBYTE, XBLOCK and XRANGE (42_transform.md). -/

namespace Sys2Proof.Machine

/-- XBYTE (R145): `RESULT <- zext_64(o)`. -/
def execXbyte (data : Byte) (s : State) : Host.Outcome State Fault Refusal :=
  finish ((byteBody data s).bind fun o s1 => .ok () (s1.setResult (byteResult o)))

/-- XBLOCK (R150): `BS` bytes; `RESULT <- zext_64(BS)`. -/
def execXblock (s : State) : Host.Outcome State Fault Refusal :=
  finish (transformStream s.cfg.blockSize (blockSizeResult s.cfg.blockSize) s)

/-- XRANGE (R156): `uint(OPND)` bytes; `RESULT <- OPND`. -/
def execXrange (s : State) : Host.Outcome State Fault Refusal :=
  finish (readReg .opnd s.opnd fun w => transformStream (rangeCount w) w s)

end Sys2Proof.Machine
end

