-- ==== Sys2Proof/Machine/Dispatch.lean ====
section
/-! DEFINITION. One arm per command (30_encoding.md R86). -/

namespace Sys2Proof.Machine

def exec (i : Instr) (s : State) : Host.Outcome State Fault Refusal :=
  match i with
  | .reset => Sys2Proof.Machine.execReset s
  | .init k v => Sys2Proof.Machine.execInit k v s
  | .xbyte data => Sys2Proof.Machine.execXbyte data s
  | .xblock => Sys2Proof.Machine.execXblock s
  | .xrange => Sys2Proof.Machine.execXrange s
  | .skip => Sys2Proof.Machine.execSkip s
  | .seek => Sys2Proof.Machine.execSeek s
  | .getpos => Sys2Proof.Machine.execGetpos s

end Sys2Proof.Machine
end

