-- ==== Sys2Proof/Machine/HostPort.lean ====
section
/-! DEFINITION. The host's side: what each access to the interface registers does (10_state.md R42 to R45, 20_memory.md
R68, R69), the ILLEGAL outcome (R90, R199) and the hardware reset input (R216). -/

namespace Sys2Proof.Machine

/-- A write to `CMD` begins a command (R42): its word, its channels (R88), nothing delivered on OUT yet, no collaborator
error reported yet, and the host's index moves on by one (R31; log 19). -/
def State.accept (w : CmdWord) (ch : Channels) (s : State) : State :=
  { s with cmd := w, chan := ch, out := [], collabErr := none, cmdIndex := s.cmdIndex + 1 }

/-- The host writes `OPND` (R43). -/
def State.setOpnd (v : OpWord) (s : State) : State := { s with opnd := .val v }

/-- A register read gives the host what the register holds (R69). -/
def State.setHostData (r : Reg OpWord) (s : State) : State := { s with hostData := r }

/-- The state with `l` as the host's accesses to come. -/
def State.withHost (l : List HostAction) (s : State) : State := { s with host := l }

/-- A word that decodes to ILLEGAL: "only `STATUS.ERR <- 4` is written" (R90, R199). -/
def takeIllegal (s : State) : Host.Outcome State Fault Refusal := finish (.raised .illegal s)

/-- The command in `CMD`: decode before anything else (R200), then its meaning. -/
def runWord (w : CmdWord) (s : State) : Host.Outcome State Fault Refusal :=
  match decode w with
  | .command i => exec i s
  | .illegal _ => takeIllegal s

/-- The hardware reset input (R216): every element of the engine returns to its power-on value (R49), and no INIT has
completed (R218). The collaborator's key state is not reset by the engine; its buffering is unspecified (R49, log 8);
`FAULT`, which is no hardware element, is never cleared (R48, log 9); the parameters stay. Of what R49 does not list, it
is the model's choice (DESIGN CHOICE, log 26) that the last command's word, channels, delivered bytes and collaborator
error value return to their power-on values too, and that the host's command index, its accesses to come, its last read
and the record of calls stay. -/
def hardwareReset (s : State) : State :=
  { State.powerOn s.cfg with
    key := s.key
    buffering := Config.freeBuffering s.freeCount
    faultMark := s.faultMark
    cmdIndex := s.cmdIndex
    host := s.host
    hostData := s.hostData
    calls := s.calls
    freeCount := s.freeCount + 1 }

/-- The 64-bit value a read of a 32-bit register gives the host. The spec gives `STATUS` 32 bits and the host no width, so
that bits [63:32] of this value are zero is a DESIGN CHOICE (log 27). -/
def readWord (w : BitVec 32) : OpWord := w.setWidth 64

/-- One host access (R69). A read has no side effect on the engine; a read of `OPND` or `RESULT` gives what the
register holds, `uninit` included (log 16). -/
def serve (a : HostAction) (s : State) : Host.Outcome State Fault Refusal :=
  match a with
  | .writeCmd w ch => runWord w (s.accept w ch)
  | .writeOpnd v => .next (s.setOpnd v)
  | .writeResult _ => .next s
  | .writeStatus _ => .next s
  | .readCmd => .refused .readOfCmd
  | .readOpnd => .next (s.setHostData s.opnd)
  | .readResult => .next (s.setHostData s.result)
  | .readStatus => .next (s.setHostData (.val (readWord (statusWord s))))
  | .resetInput => if s.cfg.hasResetInput then .next (hardwareReset s) else .refused .noResetInput

/-- What happens next: the host's next access is served; with none to come the engine waits (log 12). -/
def serveNext (s : State) : Host.Outcome State Fault Refusal :=
  match s.host with
  | [] => .next s
  | a :: rest => serve a (s.withHost rest)

/-- An interface register (10_state.md R42 to R45). -/
inductive HostRegister where
  | cmd
  | opnd
  | result
  | status
  deriving DecidableEq, Repr

/-- The register that stands at a bus offset (R70, I24); none elsewhere (log 25). -/
def registerAt (o : RegOffsets) (offset : Nat) : Option HostRegister :=
  if offset = o.cmd then some .cmd
  else if offset = o.opnd then some .opnd
  else if offset = o.result then some .result
  else if offset = o.status then some .status
  else none

/-- The access that a read of a register is. -/
def readAction : HostRegister → HostAction
  | .cmd => .readCmd
  | .opnd => .readOpnd
  | .result => .readResult
  | .status => .readStatus

/-- The access that a write of a whole word to a register is; a 32-bit register takes the low half of the bus word
(log 25), and a write to `CMD` comes with the command's channels (R88). -/
def writeAction (r : HostRegister) (v : OpWord) (ch : Channels) : HostAction :=
  match r with
  | .cmd => .writeCmd (v.setWidth 32) ch
  | .opnd => .writeOpnd v
  | .result => .writeResult v
  | .status => .writeStatus (v.setWidth 32)

/-- A read on the platform's bus, as the host access it is (R70). -/
def busRead (c : Config) (offset : Nat) : Option HostAction := (registerAt c.regOffsets offset).map readAction

/-- A write on the platform's bus, as the host access it is (R70). -/
def busWrite (c : Config) (offset : Nat) (v : OpWord) (ch : Channels) : Option HostAction :=
  (registerAt c.regOffsets offset).map fun r => writeAction r v ch

/-- `s` with the command word `w` of `nbits` bits as the host's next access (no channel data). -/
def placeWord (nbits w : Nat) (s : State) : State :=
  s.withHost (.writeCmd (BitVec.ofNat 32 (w % 2 ^ nbits)) Channels.none :: s.host)

end Sys2Proof.Machine
end

