-- ==== Sys2Proof/WellFormed.lean ====
section
/-! DEFINITION. The checks on what a person writes: a command, a command line, the parameters of an engine. -/

namespace Sys2Proof

/-- A command is well-formed when each operand fits its field (R82 to R84). The operand types (one bit, one byte) admit
exactly the values of the fields, so every `Instr` passes. -/
def Instr.wellFormed : Instr → Bool
  | .reset => true
  | .init _ _ => true
  | .xbyte _ => true
  | .xblock => true
  | .xrange => true
  | .skip => true
  | .seek => true
  | .getpos => true

/-- Every number of a list of written bytes is a byte (R13: in `[0, 255]`). -/
def bytesInRange (l : List Nat) : Bool := l.all (· < 256)

/-- `n` is an unsigned `N_W`-bit integer (R8, R89: SEEK's position and XRANGE's count). -/
def unsignedOperand (n : Nat) : Bool := n < 2 ^ 64

/-- `n` is a two's-complement `N_W`-bit integer (R8, R89: SKIP's offset). -/
def signedOperand (n : Int) : Bool := decide (-2 ^ 63 ≤ n) && decide (n < 2 ^ 63)

/-- A line is well-formed when every number fits the field it is written to (R95, R89); SKIPBLK is "valid when
`m * BS` fits `N_W` bits" (R96). -/
def Line.wellFormed (blockSize : Nat) : Line → Bool
  | .reset => true
  | .init iv _ => bytesInRange iv
  | .initNoIv _ => true
  | .xbyte b => decide (b < 256)
  | .xblock input _ => bytesInRange input
  | .xrange count input _ => unsignedOperand count && bytesInRange input
  | .skip n => signedOperand n
  | .seek p => unsignedOperand p
  | .getpos => true
  | .word w => decide (w < 2 ^ 32)
  | .encrypt count input _ => unsignedOperand count && bytesInRange input
  | .decrypt count input _ => unsignedOperand count && bytesInRange input
  | .setIv iv => bytesInRange iv
  | .rekey iv _ => bytesInRange iv
  | .rewind => true
  | .skipBlk m => signedOperand (m * blockSize)

/-- Register offsets can be decoded when no two registers share one (R70; the check is the model's, log 25). -/
def RegOffsets.wellFormed (o : RegOffsets) : Bool :=
  o.cmd ≠ o.opnd && o.cmd ≠ o.result && o.cmd ≠ o.status && o.opnd ≠ o.result && o.opnd ≠ o.status && o.result ≠ o.status

/-- The parameters of an engine are well-formed when `BS >= 1` (R6). -/
def Config.wellFormed (c : Config) : Bool := decide (1 ≤ c.blockSize)

end Sys2Proof
end

