-- ==== Sys2Proof/Machine/Assembler.lean ====
section
/-! DEFINITION. The assembler syntax: what host accesses a command line stands for (30_encoding.md R95, R96), and how the
text of a line is read (R95; log 21). -/

namespace Sys2Proof.Machine

/-- Written numbers as bytes. -/
def asBytes (l : List Nat) : List Byte := l.map (BitVec.ofNat 8)

/-- The channels of `INIT iv=…[, key=…]` (R88). -/
def initChannels (iv : List Nat) (key : Option KeyToken) : Channels :=
  { Channels.none with iv := asBytes iv, key := key.getD 0 }

/-- The channels of a transform line; `out_cap` has a default (R95). -/
def streamChannels (input : List Nat) (outCap : Option Nat) (dflt : Nat) : Channels :=
  { Channels.none with input := asBytes input, outCap := outCap.getD dflt }

/-- A write of a command's word to `CMD`. -/
def issue (i : Instr) (ch : Channels) : HostAction := .writeCmd (encode i) ch

/-- `XRANGE <count>, in=…[, out_cap=…]`: `OPND` is written with `count` first; `out_cap` defaults to `count` (R95). -/
def rangeActions (count : Nat) (input : List Nat) (outCap : Option Nat) : List HostAction :=
  [.writeOpnd (BitVec.ofNat 64 count), issue .xrange (streamChannels input outCap count)]

/-- `SKIP <n>`: `OPND` is written with the two's-complement encoding of `n` first (R95). -/
def skipActions (n : Int) : List HostAction := [.writeOpnd (BitVec.ofInt 64 n), issue .skip Channels.none]

/-- `SEEK <p>` (R95). -/
def seekActions (p : Nat) : List HostAction := [.writeOpnd (BitVec.ofNat 64 p), issue .seek Channels.none]

/-- The host accesses a line stands for (R95); the pseudo-commands by their expansions (R96). The spec gives none for a line
whose number does not fit its field (`Line.wellFormed` fails); that such a number then wraps to the width of its field is a
DESIGN CHOICE (log 28). -/
def lineActions (blockSize : Nat) : Line → List HostAction
  | .reset => [issue .reset Channels.none]
  | .init iv key => [issue (.init key.isSome true) (initChannels iv key)]
  | .initNoIv key => [issue (.init key.isSome false) (initChannels [] key)]
  | .xbyte b => [issue (.xbyte (BitVec.ofNat 8 b)) Channels.none]
  | .xblock input outCap => [issue .xblock (streamChannels input outCap blockSize)]
  | .xrange count input outCap => rangeActions count input outCap
  | .skip n => skipActions n
  | .seek p => seekActions p
  | .getpos => [issue .getpos Channels.none]
  | .word w => [.writeCmd (BitVec.ofNat 32 w) Channels.none]
  | .encrypt count input outCap => rangeActions count input outCap
  | .decrypt count input outCap => rangeActions count input outCap
  | .setIv iv => [issue (.init false true) (initChannels iv none)]
  | .rekey iv key => [issue (.init true true) (initChannels iv (some key))]
  | .rewind => seekActions 0
  | .skipBlk m => skipActions (m * blockSize)

/-- The text between separators. -/
def splitChars (sep : Char) : List Char → List (List Char)
  | [] => [[]]
  | c :: cs =>
    match splitChars sep cs with
    | [] => [[c]]
    | w :: ws => if c == sep then [] :: w :: ws else (c :: w) :: ws

/-- The text without the blanks at its two ends. -/
def trimChars (l : List Char) : List Char := ((l.dropWhile (· == ' ')).reverse.dropWhile (· == ' ')).reverse

/-- A digit of base 16. -/
def hexDigit (c : Char) : Option Nat :=
  let n := c.toNat
  if 48 ≤ n ∧ n ≤ 57 then some (n - 48)
  else if 65 ≤ n ∧ n ≤ 70 then some (n - 55)
  else if 97 ≤ n ∧ n ≤ 102 then some (n - 87)
  else none

/-- The number written with the given digits in a base, after the digits that `acc` stands for. -/
def readDigits (base : Nat) : List Char → Nat → Option Nat
  | [], acc => some acc
  | c :: cs, acc =>
    match hexDigit c with
    | some d => if d < base then readDigits base cs (acc * base + d) else none
    | none => none

/-- A number: "decimal, or hexadecimal with `0x`" (R95). -/
def readNat : List Char → Option Nat
  | '0' :: 'x' :: c :: cs => readDigits 16 (c :: cs) 0
  | c :: cs => readDigits 10 (c :: cs) 0
  | [] => none

/-- A signed number, for SKIP and SKIPBLK. -/
def readInt : List Char → Option Int
  | '-' :: cs => (readNat cs).map fun n => -(n : Int)
  | cs => (readNat cs).map fun n => (n : Int)

/-- The text after a keyword such as `iv=`. -/
def afterPrefix : List Char → List Char → Option (List Char)
  | [], l => some l
  | p :: ps, c :: cs => if p == c then afterPrefix ps cs else none
  | _ :: _, [] => none

/-- Hex bytes separated by blanks, most significant first, as 95_test_vectors.md writes them. -/
def readBytes (l : List Char) : Option (List Nat) :=
  ((splitChars ' ' l).filter (· ≠ [])).mapM fun w =>
    match w with
    | [a, b] => readDigits 16 [a, b] 0
    | _ => none

/-- A key token: any text; the token is a number that two texts share only if they are equal (log 21). -/
def readToken : List Char → Option KeyToken
  | [] => none
  | c :: cs => some ((c :: cs).foldl (fun n ch => n * 2 ^ 21 + ch.toNat + 1) 0)

/-- An optional trailing `key=<token>`. -/
def readKey : List (List Char) → Option (Option KeyToken)
  | [] => some none
  | [f] => ((afterPrefix ['k', 'e', 'y', '='] f).bind readToken).map some
  | _ => none

/-- `in=<hex bytes>[, out_cap=<n>]`. -/
def readStream : List (List Char) → Option (List Nat × Option Nat)
  | [f] => ((afterPrefix ['i', 'n', '='] f).bind readBytes).map fun l => (l, none)
  | [f, g] =>
    match (afterPrefix ['i', 'n', '='] f).bind readBytes,
        (afterPrefix ['o', 'u', 't', '_', 'c', 'a', 'p', '='] g).bind readNat with
    | some l, some n => some (l, some n)
    | _, _ => none
  | _ => none

/-- `<count>, in=<hex bytes>[, out_cap=<n>]`. -/
def readRange (mk : Nat → List Nat → Option Nat → Line) : List (List Char) → Option Line
  | f :: rest =>
    match readNat f, readStream rest with
    | some n, some (l, cap) => some (mk n l cap)
    | _, _ => none
  | [] => none

/-- `INIT`'s operands: `iv=<hex bytes>` or `noiv`, then an optional key. -/
def readInit : List (List Char) → Option Line
  | f :: rest =>
    if f = ['n', 'o', 'i', 'v'] then (readKey rest).map Line.initNoIv
    else
      match (afterPrefix ['i', 'v', '='] f).bind readBytes, readKey rest with
      | some iv, some key => some (.init iv key)
      | _, _ => none
  | [] => none

/-- The operands of a line with exactly one. -/
def readOne {α : Type} (rd : List Char → Option α) (mk : α → Line) : List (List Char) → Option Line
  | [f] => (rd f).map mk
  | _ => none

/-- A line from its mnemonic and its operands (R95, R96). -/
def readCommand (m : String) (ops : List (List Char)) : Option Line :=
  match m, ops with
  | "RESET", [] => some .reset
  | "GETPOS", [] => some .getpos
  | "REWIND", [] => some .rewind
  | "INIT", ops => readInit ops
  | "XBYTE", ops => readOne readNat .xbyte ops
  | "XBLOCK", ops => (readStream ops).map fun p => .xblock p.1 p.2
  | "XRANGE", ops => readRange .xrange ops
  | "SKIP", ops => readOne readInt .skip ops
  | "SEEK", ops => readOne readNat .seek ops
  | ".word", ops => readOne readNat .word ops
  | "ENCRYPT", ops => readRange .encrypt ops
  | "DECRYPT", ops => readRange .decrypt ops
  | "SETIV", ops => readOne (fun f => (afterPrefix ['i', 'v', '='] f).bind readBytes) .setIv ops
  | "REKEY", ops =>
    match readInit ops with
    | some (.init iv (some k)) => some (.rekey iv k)
    | _ => none
  | "SKIPBLK", ops => readOne readInt .skipBlk ops
  | _, _ => none

/-- The text of one line: "the mnemonic followed by its operands, separated by commas" (R95). -/
def readLine (text : List Char) : Option Line :=
  let t := trimChars text
  let m := t.takeWhile (· ≠ ' ')
  let rest := trimChars (t.dropWhile (· ≠ ' '))
  readCommand (String.ofList m) (if rest = [] then [] else (splitChars ',' rest).map trimChars)

/-- A command list, one line after the other. -/
def scriptActions (blockSize : Nat) (lines : List Line) : List HostAction := lines.flatMap (lineActions blockSize)

end Sys2Proof.Machine
end

