-- ==== Sys2Proof/Machine/System.lean ====
section
/-! DEFINITION. Several engines (20_memory.md R75, 60_exceptions.md R208): a system is any number of engines, each with
its own registers and collaborator; they share no state and send each other no signal. -/

namespace Sys2Proof.Machine

/-- Engine `n` of a system takes one step. A number no engine has does nothing. When the step is a model fault or a refusal,
the whole system has no next state: the spec does not say what becomes of the other engines (DESIGN CHOICE, log 23). -/
def stepAt (n : Nat) (sys : List State) : Host.Outcome (List State) Fault Refusal :=
  match sys[n]? with
  | none => .next sys
  | some s =>
    match step s with
    | .next t => .next (sys.set n t)
    | .fault f => .fault f
    | .refused r => .refused r

end Sys2Proof.Machine
end

