-- ==== Sys2Proof/Safety.lean ====
section
/-! DEFINITION. The terms in which claims are made: the logical position (R39), the keystream (R62), the invariant of
10_state.md section 3, and what a safe run is (R48: claims take "`FAULT` is false" as a premise). -/

namespace Sys2Proof.Machine

/-- The logical position `P = ((be(CTR) - be(IV)) mod 2^CW) * BS + CUR` (R39). -/
def logicalPosition (blockSize : Nat) (iv ctr : List Byte) (cur : Nat) : Nat :=
  (((be ctr : Int) - be iv) % (counterSpace blockSize : Int)).toNat * blockSize + cur

/-- The number of logical positions, `2^CW * BS` (R39). -/
def positionSpace (blockSize : Nat) : Nat := counterSpace blockSize * blockSize

/-- The keystream byte at logical position `p` (R62): `K(p) = E_key(bytes(be(IV) + fdiv(p, BS)))[p mod BS]`; none where
the collaborator fails on that block. -/
def keystreamByte (c : Config) (k : KeyToken) (iv : List Byte) (p : Nat) : Option Byte :=
  match eKey c k (bytesOf c.blockSize ((be iv : Int) + (p / c.blockSize : Nat))) with
  | .block b => b[p % c.blockSize]?
  | .failed _ => none

/-- Under the key `k` the collaborator fails on no block of `BS` bytes. -/
def collaboratorAnswers (c : Config) (k : KeyToken) : Prop :=
  ∀ a : List Byte, a.length = c.blockSize → ∃ b, eKey c k a = .block b

/-- What holds at every command boundary (10_state.md section 3): the buffers are `BS` bytes and `CUR < BS` (R37), `KS` is
valid while `CUR > 0` and no fault is recorded (R38), `STATUS.ERR` is a code that is written (R190), and no more than
`out_cap` bytes were delivered (R157). -/
structure State.Inv (s : State) : Prop where
  /-- `BS >= 1` (R6). -/
  blockSize_pos : 1 ≤ s.cfg.blockSize
  /-- `len(IV) = BS` (R37). -/
  iv_length : ∀ a, s.iv = .val a → a.length = s.cfg.blockSize
  /-- `len(CTR) = BS` (R37). -/
  ctr_length : ∀ a, s.ctr = .val a → a.length = s.cfg.blockSize
  /-- `len(KS) = BS` (R37). -/
  ks_length : ∀ a, s.ks = .val a → a.length = s.cfg.blockSize
  /-- `0 <= CUR < BS` (R37). -/
  cur_lt : ∀ c, s.cur = .val c → c < s.cfg.blockSize
  /-- `CUR` is written only after `CTR` (R130, R136). -/
  cur_ctr : ∀ c, s.cur = .val c → ∃ a, s.ctr = .val a
  /-- `CUR` is written first by an INIT that completes (R218; log 24). -/
  cur_init : ∀ c, s.cur = .val c → s.initDone = true
  /-- `CTR` is written only after `IV` (R130, R136). -/
  ctr_iv : ∀ a, s.ctr = .val a → ∃ b, s.iv = .val b
  /-- "At every command boundary with `CUR > 0` and no model fault recorded, `KS = E_key(CTR)`" (R38). -/
  ks_valid : s.faultMark = false → ∀ c, s.cur = .val c → 0 < c →
    ∃ k a b, s.key = .token k ∧ s.ctr = .val a ∧ s.ks = .val b ∧ eKey s.cfg k a = .block b
  /-- Codes 5 to 7 are never written (R190). -/
  err_le : s.err.toNat ≤ 4
  /-- The engine never delivers output the host cannot take (R157). -/
  out_le : s.out.length ≤ s.chan.outCap

/-- The premise of every claim about a run (R48). -/
def State.trusted (s : State) : Prop := s.faultMark = false

/-- An initialised engine in which claims hold: the invariant, no fault recorded, a key, and `IV`, `CTR` and `CUR`
written (R38, R48, R52). -/
structure State.Live (s : State) (k : KeyToken) (iv ctr : List Byte) (cur : Nat) : Prop where
  inv : s.Inv
  trusted : s.trusted
  key : s.key = .token k
  iv : s.iv = .val iv
  ctr : s.ctr = .val ctr
  cur : s.cur = .val cur

/-- The outcome is a next state. -/
def Outcome.state? {σ φ ρ : Type} : Host.Outcome σ φ ρ → Option σ
  | .next s => some s
  | .fault _ => none
  | .refused _ => none

/-- A run of `n` steps is safe when it ends in a next state with no fault recorded (R48, R203). -/
def safeRun (n : Nat) (s : State) : Prop := ∃ t, Sys2Proof.core.run n s = .next t ∧ t.trusted

/-- `i` is a stream command (XBLOCK or XRANGE) that moves `n` bytes in the state `s` and answers the word `w` (R150:
`n = BS`; R156: `n = uint(OPND)`, `w = OPND`). -/
def streamCommand (i : Instr) (s : State) (n : Nat) (w : OpWord) : Prop :=
  (i = .xblock ∧ n = s.cfg.blockSize ∧ w = blockSizeResult s.cfg.blockSize) ∨
    (i = .xrange ∧ s.opnd = .val w ∧ n = w.toNat)

/-- The state `t` has delivered `n` bytes more than `s`, byte `i` of them input byte `i` of the command XOR the keystream
byte `i` places after the logical position `p` (R62, R64). -/
def deliveredFrom (s t : State) (k : KeyToken) (iv : List Byte) (p n : Nat) : Prop :=
  t.out.length = s.out.length + n ∧ t.out.take s.out.length = s.out ∧
    ∀ i, i < n → ∃ x y, s.chan.input[i]? = some x ∧ keystreamByte s.cfg k iv (p + i) = some y ∧
      t.out[s.out.length + i]? = some (y ^^^ x)

/-- `t` is `s` but for the registers that a stream command may write (R50): `CTR`, `KS`, `CUR`, `RESULT`, `STATUS.ERR`,
OUT, and what stands at the collaborator port. -/
def streamFrame (s t : State) : Prop :=
  t = { s with
    ctr := t.ctr, ks := t.ks, cur := t.cur, result := t.result, err := t.err, out := t.out
    faultMark := t.faultMark, collabErr := t.collabErr
    buffering := t.buffering, calls := t.calls, freeCount := t.freeCount }

/-- The state in which XRANGE transforms the bytes `m` (`OPND` and the channels are the host's to set, R43, R88). -/
def withStream (m : List Byte) (s : State) : State :=
  { s with
    opnd := .val (BitVec.ofNat 64 m.length)
    chan := { Channels.none with input := m, outCap := m.length }
    out := [] }

/-- A piece of a message, and the transform command that moves it (R159). -/
inductive Piece where
  /-- One byte, by XBYTE. -/
  | byte (b : Byte)
  /-- A piece of `BS` bytes, by XBLOCK. -/
  | block (m : List Byte)
  /-- A piece of any length, by XRANGE. -/
  | range (m : List Byte)
  deriving DecidableEq, Repr

/-- The bytes of a piece. -/
def pieceBytes : Piece → List Byte
  | .byte b => [b]
  | .block m => m
  | .range m => m

/-- The bytes of consecutive pieces: the message they split. -/
def messageOf (l : List Piece) : List Byte := (l.map pieceBytes).flatten

/-- Each XBLOCK piece has `BS` bytes (R159). -/
def piecesFit (blockSize : Nat) (l : List Piece) : Prop := ∀ m, .block m ∈ l → m.length = blockSize

/-- A piece transformed: its output bytes (XBYTE's in `RESULT[7:0]`, R44; the others' on OUT) and the state reached. -/
def transformPiece (p : Piece) (s : State) : Option (List Byte × State) :=
  match p with
  | .byte b =>
    (Outcome.state? (exec (.xbyte b) s)).bind fun t =>
      match t.result with
      | .uninit => none
      | .val w => some ([w.setWidth 8], t)
  | .block m => (Outcome.state? (exec .xblock (withStream m s))).map fun t => (t.out, t)
  | .range m => (Outcome.state? (exec .xrange (withStream m s))).map fun t => (t.out, t)

/-- Each piece in turn: the output bytes one after the other, and the state reached (R159). -/
def transformPieces : List Piece → State → Option (List Byte × State)
  | [], s => some ([], s)
  | p :: ps, s => (transformPiece p s).bind fun r => (transformPieces ps r.2).map fun q => (r.1 ++ q.1, q.2)

/-- The `processBlock` calls among the calls made at the port (R232). -/
def processCalls (l : List CollabCall) : Nat :=
  l.countP fun c => match c with
    | .process _ => true
    | _ => false

/-- The `reset` calls among the calls made at the port (R232). -/
def resetCalls (l : List CollabCall) : Nat :=
  l.countP fun c => match c with
    | .reset => true
    | _ => false

/-- The `init` calls among the calls made at the port (R232). -/
def initCalls (l : List CollabCall) : Nat :=
  l.countP fun c => match c with
    | .init _ _ => true
    | _ => false

/-- R158's count of `processBlock` calls of a stream of `count` bytes from cursor `c`. -/
def streamCalls (blockSize c count : Nat) : Int :=
  if count = 0 then 0
  else Int.fdiv ((c : Int) + count - 1) blockSize - Int.fdiv ((c : Int) - 1) blockSize

end Sys2Proof.Machine
end

