-- ==== Sys2Proof/Certificates/Slice0/Obligations.lean ====
section
/-! DEFINITION. The statements for the provers, each from the numbered rules of spec/ its docstring names. -/

open Sys2Proof Sys2Proof.Machine

/-! ### Encoding -/

/-- Decode and encode agree: decoding the word of a command gives the command back, with every operand at every value (R86,
R87); and a word that decodes to a command is that command's one word, so no bit of a legal word is ignored (R93). -/
def Obligations.DecodeAndEncodeAgree : Prop :=
  (∀ i : Instr, decode (encode i) = .command i) ∧
  (∀ (w : CmdWord) (i : Instr), decode w = .command i → encode i = w)

/-- Decode follows the opcode map R86: a word selects a row exactly when it decodes to a command of that row, so no two
rows match the same word; and the fields are K = [4], V = [5], DATA = [15:8]. -/
def Obligations.DecodeFollowsOpcodeMap : Prop :=
  (∀ (w : CmdWord) (j : Instr), selectsRow w j = true ↔ ∃ i, decode w = .command i ∧ tableRow i = tableRow j) ∧
  (∀ (w : CmdWord) (k v : Bool), decode w = .command (.init k v) → k = w.getLsbD 4 ∧ v = w.getLsbD 5) ∧
  (∀ (w : CmdWord) (d : Byte), decode w = .command (.xbyte d) → d = w.extractLsb' 8 8)

/-- R92: every word with `CMD[3] = 1` is ILLEGAL, whatever its other bits. -/
def Obligations.ReservedOpcodesAreIllegal : Prop :=
  ∀ w : CmdWord, w.getLsbD 3 = true → ∃ why, decode w = .illegal why

/-- R93: a nonzero must-be-zero field makes the word ILLEGAL. -/
def Obligations.MustBeZeroFieldsAreChecked : Prop :=
  ∀ w : CmdWord,
    (w.extractLsb' 0 4 ≠ 1 ∧ (w.getLsbD 4 = true ∨ w.getLsbD 5 = true)) ∨
    (w.extractLsb' 0 4 ≠ 2 ∧ w.extractLsb' 8 8 ≠ 0) ∨
    w.extractLsb' 6 2 ≠ 0 ∨ w.extractLsb' 16 16 ≠ 0 →
    ∃ why, decode w = .illegal why

/-- Words of 95_test_vectors.md section 2.1, one of every command and some ILLEGAL ones (sanity). -/
def Obligations.SampleWordsDecode : Prop :=
  decode 0x00000000 = .command .reset ∧ decode 0x00000021 = .command (.init false true) ∧
  decode 0x00000011 = .command (.init true false) ∧ decode 0x00005A02 = .command (.xbyte 0x5A) ∧
  decode 0x00000003 = .command .xblock ∧ decode 0x00000004 = .command .xrange ∧
  decode 0x00000005 = .command .skip ∧ decode 0x00000006 = .command .seek ∧
  decode 0x00000007 = .command .getpos ∧ (∃ why, decode 0x00000101 = .illegal why) ∧
  (∃ why, decode 0x80000007 = .illegal why) ∧ (∃ why, decode 0x00000012 = .illegal why)

/-! ### The step and the host interface -/

/-- When the host's next access writes to `CMD` a word that decodes to a command, the step is that command's meaning, run
in the state with the access taken off the list, the word and its channels in place, nothing delivered and no
collaborator error reported yet, and the host's index moved on by one (R31, R42, R88; the index: log 19). -/
def Obligations.StepRunsDecodedCommand : Prop :=
  ∀ (s : State) (w : CmdWord) (ch : Channels) (rest : List HostAction) (i : Instr),
    s.host = .writeCmd w ch :: rest → decode w = .command i →
    step s = exec i { s with
      host := rest, cmd := w, chan := ch, out := [], collabErr := none, cmdIndex := s.cmdIndex + 1 }

/-- R199: a word that decodes to ILLEGAL changes `STATUS.ERR` to 4 and no other register, reads no channel and makes no
collaborator call; what is recorded of the host's write is as for every command. -/
def Obligations.IllegalWordOnlyWritesErr : Prop :=
  ∀ (s : State) (w : CmdWord) (ch : Channels) (rest : List HostAction) (why : IllegalReason),
    s.host = .writeCmd w ch :: rest → decode w = .illegal why →
    step s = .next { s with
      host := rest, cmd := w, chan := ch, out := [], collabErr := none, cmdIndex := s.cmdIndex + 1, err := 4 }

/-- Host accesses other than commands (R43, R44, R45, R69): `OPND` is stored and read back; reads change nothing in the
engine; `STATUS` reads as `ERR` in [2:0] and zero above; writes to `STATUS` and `RESULT` have no effect; a read of
`CMD` is refused (R42). That a read of an `uninit` register gives the host the marker is the model's choice (log 16), and so
is that bits [63:32] of the word a read of the 32-bit `STATUS` gives are zero (log 27). -/
def Obligations.HostRegisterAccesses : Prop :=
  ∀ (s : State) (rest : List HostAction),
    (∀ v, s.host = .writeOpnd v :: rest → step s = .next { s with host := rest, opnd := .val v }) ∧
    (s.host = .readOpnd :: rest → step s = .next { s with host := rest, hostData := s.opnd }) ∧
    (s.host = .readResult :: rest → step s = .next { s with host := rest, hostData := s.result }) ∧
    (s.host = .readStatus :: rest →
      step s = .next { s with host := rest, hostData := .val (BitVec.ofNat 64 s.err.toNat) }) ∧
    (∀ v, s.host = .writeStatus v :: rest → step s = .next { s with host := rest }) ∧
    (∀ v, s.host = .writeResult v :: rest → step s = .next { s with host := rest }) ∧
    (s.host = .readCmd :: rest → step s = .refused .readOfCmd)

/-- R49: the power-on values, for every engine whatever its parameters; and no collaborator call is made (R215). -/
def Obligations.PowerOnValues : Prop :=
  ∀ c : Config,
    (State.powerOn c).iv = .uninit ∧ (State.powerOn c).ctr = .uninit ∧ (State.powerOn c).ks = .uninit ∧
    (State.powerOn c).cur = .uninit ∧ (State.powerOn c).opnd = .uninit ∧ (State.powerOn c).result = .uninit ∧
    (State.powerOn c).err = 0 ∧ statusWord (State.powerOn c) = 0 ∧ (State.powerOn c).key = .absent ∧
    (State.powerOn c).faultMark = false ∧ (State.powerOn c).calls = []

/-- R216: a hardware reset input, where there is one, returns every register to its power-on value; the collaborator's key
state stays, no call is made, and the parameters stay. That `FAULT` stays is the model's reading (log 9), and so is the refusal
of a pulse where there is no such input (log 10). -/
def Obligations.HardwareResetInput : Prop :=
  ∀ (s : State) (rest : List HostAction), s.host = .resetInput :: rest →
    (s.cfg.hasResetInput = true → ∃ t, step s = .next t ∧
      t.iv = .uninit ∧ t.ctr = .uninit ∧ t.ks = .uninit ∧ t.cur = .uninit ∧ t.opnd = .uninit ∧ t.result = .uninit ∧
      t.err = 0 ∧ t.initDone = false ∧ t.key = s.key ∧ t.cfg = s.cfg ∧ t.calls = s.calls ∧ t.faultMark = s.faultMark ∧
      t.host = rest) ∧
    (s.cfg.hasResetInput = false → step s = .refused .noResetInput)

/-! ### Counter unit -/

/-- R13: `be(A)` is the sum of `A[i] * 256^(BS-1-i)` and below `2^CW`; `be(bytes(v)) = v mod 2^CW` for every integer `v`,
`bytes(v)` has `BS` bytes, and `bytes(be(A)) = A`. -/
def Obligations.BytesAndValueAgree : Prop :=
  (∀ a : List Byte,
    be a = ((List.range a.length).map fun i => (a.getD i 0).toNat * 256 ^ (a.length - 1 - i)).sum ∧
    be a < 2 ^ (8 * a.length)) ∧
  (∀ (n : Nat) (v : Int), (bytesOf n v).length = n ∧ (be (bytesOf n v) : Int) = v % (2 ^ (8 * n) : Int)) ∧
  (∀ a : List Byte, bytesOf a.length (be a) = a)

/-- R107: the INC law; and which bytes INC changes: the rightmost byte that is not `0xFF` and those after it. -/
def Obligations.IncLaw : Prop :=
  (∀ a : List Byte, (inc a).length = a.length ∧ be (inc a) = (be a + 1) % 2 ^ (8 * a.length)) ∧
  (∀ (l : List Byte) (b : Byte) (n : Nat), b ≠ 0xFF →
    inc (l ++ b :: List.replicate n 0xFF) = l ++ (b + 1) :: List.replicate n 0x00) ∧
  (∀ n : Nat, inc (List.replicate n 0xFF) = List.replicate n 0x00)

/-- R109: the DEC law, and DEC and INC undo each other. -/
def Obligations.DecLaw : Prop :=
  (∀ a : List Byte, (dec a).length = a.length ∧ (be (dec a) : Int) = ((be a : Int) - 1) % (2 ^ (8 * a.length) : Int)) ∧
  (∀ a : List Byte, dec (inc a) = a ∧ inc (dec a) = a) ∧
  (∀ n : Nat, dec (List.replicate n 0x00) = List.replicate n 0xFF)

/-- R111: the ADDN law for every integer `k`, and for `k >= 0` ADDN equals INC applied `k` times. -/
def Obligations.AddnLaw : Prop :=
  (∀ (a : List Byte) (k : Int),
    (addn a k).length = a.length ∧ (be (addn a k) : Int) = ((be a : Int) + k) % (2 ^ (8 * a.length) : Int)) ∧
  (∀ (a : List Byte) (k : Nat), addn a k = inc^[k] a)

/-- R113: the SUBN law for every integer `k`, for `k >= 0` SUBN equals DEC applied `k` times, and `k = -1` is INC. -/
def Obligations.SubnLaw : Prop :=
  (∀ (a : List Byte) (k : Int),
    (subn a k).length = a.length ∧ (be (subn a k) : Int) = ((be a : Int) - k) % (2 ^ (8 * a.length) : Int)) ∧
  (∀ (a : List Byte) (k : Nat), subn a k = dec^[k] a) ∧
  (∀ a : List Byte, subn a (-1) = inc a)

/-- R115: the DIFF law. -/
def Obligations.DiffLaw : Prop :=
  ∀ c i : List Byte, c.length = i.length →
    (diff c i).length = c.length ∧ (be (diff c i) : Int) = ((be c : Int) - be i) % (2 ^ (8 * c.length) : Int)

/-- R116: WINDOW is the value of the low-order bytes, and of all of them when there are fewer than the window's. -/
def Obligations.WindowLaw : Prop :=
  ∀ (n : Nat) (r : List Byte),
    window n r = be r % 2 ^ (8 * n) ∧
    (n ≤ r.length → window n r = be (r.drop (r.length - n))) ∧ (r.length < n → window n r = be r)

/-! ### Position unit -/

/-- R123: the closed form of the skip adjustment under FLOOR, for every integer `n`; and so the logical position becomes
`(P + n) mod (2^CW * BS)`. -/
def Obligations.SkipClosedForm : Prop :=
  ∀ (c : Config) (n : Int) (ctr : List Byte) (cur : Nat),
    1 ≤ c.blockSize → c.negSkipDiv = .floor → ctr.length = c.blockSize →
    skipTarget c n ctr cur =
      (bytesOf c.blockSize ((be ctr : Int) + Int.fdiv ((cur : Int) + n) c.blockSize),
        (((cur : Int) + n) % (c.blockSize : Int)).toNat) ∧
    (∀ iv : List Byte, cur < c.blockSize →
      (logicalPosition c.blockSize iv (skipTarget c n ctr cur).1 (skipTarget c n ctr cur).2 : Int) =
        ((logicalPosition c.blockSize iv ctr cur : Int) + n) % (positionSpace c.blockSize : Int))

/-- R124: under TRUNC the same result as FLOOR's, except when `0 < -n < CUR`: then `CTR` is unchanged and `CUR` becomes 0,
so the logical position becomes `P - CUR`. -/
def Obligations.TruncDeviation : Prop :=
  ∀ (c : Config) (n : Int) (iv ctr : List Byte) (cur : Nat),
    1 ≤ c.blockSize → c.negSkipDiv = .trunc → ctr.length = c.blockSize → cur < c.blockSize →
    (0 < -n ∧ -n < (cur : Int) →
      skipTarget c n ctr cur = (ctr, 0) ∧
      logicalPosition c.blockSize iv ctr 0 = logicalPosition c.blockSize iv ctr cur - cur) ∧
    (¬ (0 < -n ∧ -n < (cur : Int)) → skipTarget c n ctr cur = skipTarget { c with negSkipDiv := .floor } n ctr cur)

/-- R125: under FLOOR a skip by `n` and then by `-n` restores the counter and the cursor; under TRUNC it does not in the cases
of R124 (`0 < -n < CUR` at the first skip, or at the second); with `BS = 16` and `CUR = 2`, `SKIP 3` and then `SKIP -3`
ends with `CUR = 0`. -/
def Obligations.SkipRoundTrip : Prop :=
  (∀ (c : Config) (n : Int) (ctr : List Byte) (cur : Nat),
    c.negSkipDiv = .floor → ctr.length = c.blockSize → cur < c.blockSize →
    skipTarget c (-n) (skipTarget c n ctr cur).1 (skipTarget c n ctr cur).2 = (ctr, cur)) ∧
  (∀ (c : Config) (n : Int) (ctr : List Byte) (cur : Nat),
    c.negSkipDiv = .trunc → ctr.length = c.blockSize → cur < c.blockSize →
    (0 < -n ∧ -n < (cur : Int)) ∨ (0 < n ∧ n < ((skipTarget c n ctr cur).2 : Int)) →
    skipTarget c (-n) (skipTarget c n ctr cur).1 (skipTarget c n ctr cur).2 ≠ (ctr, cur)) ∧
  (∀ (c : Config) (ctr : List Byte), c.negSkipDiv = .trunc → c.blockSize = 16 → ctr.length = 16 →
    (skipTarget c (-3) (skipTarget c 3 ctr 2).1 (skipTarget c 3 ctr 2).2).2 = 0)

/-! ### RESET and INIT -/

/-- R136: RESET copies `IV` to `CTR`, calls the collaborator's reset, clears `CUR`, and changes nothing else; when the
reset fails `CTR` is already `IV` and `CUR` is as it was; with `IV` `uninit` it is a model fault. The premise that an INIT
has completed is R218's (log 24). -/
def Obligations.ResetCommand : Prop :=
  ∀ s : State,
    (∀ iv, s.iv = .val iv → s.initDone = true → resetFailure s.cfg s.freeCount = none →
      exec .reset s = .next { s with
        ctr := .val iv, cur := .val 0, err := 0
        calls := .reset :: s.calls, buffering := [], freeCount := s.freeCount + 1 }) ∧
    (∀ iv v, s.iv = .val iv → s.initDone = true → resetFailure s.cfg s.freeCount = some v →
      ∃ buf, exec .reset s = .next { s with
        ctr := .val iv, err := 3, faultMark := true, collabErr := some v
        calls := .reset :: s.calls, buffering := buf, freeCount := s.freeCount + 1 }) ∧
    (s.iv = .uninit → exec .reset s = .fault (.uninitRead .iv))

/-- R133: when INIT raises ConfigurationError (no IV, or an IV of another length than `BS`) only `STATUS.ERR <- 1` is
written. -/
def Obligations.InitRejectsBadIv : Prop :=
  ∀ (s : State) (k v : Bool), v = false ∨ s.chan.iv.length ≠ s.cfg.blockSize →
    exec (.init k v) s = .next { s with err := 1 }

/-- R132, R134: INIT with an IV of `BS` bytes ends in Idle with `CTR = IV`, loads no `KS`, writes no `RESULT`; with `K = 0`
it makes no `init` call and the key stays; with `K = 1` the key token is forwarded with `forEncryption = true` (R131),
then the collaborator is reset. An INIT that completes makes the engine initialised (R218; log 24). -/
def Obligations.InitCompletes : Prop :=
  ∀ s : State, s.chan.iv.length = s.cfg.blockSize →
    (resetFailure s.cfg s.freeCount = none →
      exec (.init false true) s = .next { s with
        iv := .val s.chan.iv, ctr := .val s.chan.iv, cur := .val 0, err := 0, initDone := true
        calls := .reset :: s.calls, buffering := [], freeCount := s.freeCount + 1 }) ∧
    (initFailure s.cfg s.chan.key s.freeCount = none → resetFailure s.cfg (s.freeCount + 1) = none →
      exec (.init true true) s = .next { s with
        iv := .val s.chan.iv, ctr := .val s.chan.iv, cur := .val 0, err := 0, initDone := true, key := .token s.chan.key
        calls := .reset :: .init true s.chan.key :: s.calls, buffering := [], freeCount := s.freeCount + 2 })

/-- R135: the effect order inside INIT: a failing `init` leaves the new `IV` with the old `CTR` and `CUR`; a failing
`reset`, with `K = 0` or after a key forward, leaves the new `IV` and `CTR = IV` with the old `CUR`; `KS` and `RESULT` are
as they were in each (R196). -/
def Obligations.InitAbortsAtFailingCall : Prop :=
  ∀ s : State, s.chan.iv.length = s.cfg.blockSize →
    (∀ v, initFailure s.cfg s.chan.key s.freeCount = some v →
      ∃ t, exec (.init true true) s = .next t ∧ t.iv = .val s.chan.iv ∧ t.ctr = s.ctr ∧ t.cur = s.cur ∧ t.ks = s.ks ∧
        t.result = s.result ∧ t.err = 3 ∧ t.faultMark = true ∧ t.collabErr = some v ∧ t.initDone = s.initDone ∧
        t.calls = .init true s.chan.key :: s.calls) ∧
    (∀ v, resetFailure s.cfg s.freeCount = some v →
      ∃ t, exec (.init false true) s = .next t ∧ t.iv = .val s.chan.iv ∧ t.ctr = .val s.chan.iv ∧ t.cur = s.cur ∧
        t.ks = s.ks ∧ t.result = s.result ∧ t.err = 3 ∧ t.faultMark = true ∧ t.collabErr = some v ∧ t.key = s.key ∧
        t.initDone = s.initDone ∧ t.calls = .reset :: s.calls) ∧
    (∀ v, initFailure s.cfg s.chan.key s.freeCount = none → resetFailure s.cfg (s.freeCount + 1) = some v →
      ∃ t, exec (.init true true) s = .next t ∧ t.iv = .val s.chan.iv ∧ t.ctr = .val s.chan.iv ∧ t.cur = s.cur ∧
        t.ks = s.ks ∧ t.result = s.result ∧ t.err = 3 ∧ t.faultMark = true ∧ t.collabErr = some v ∧
        t.key = .token s.chan.key ∧ t.initDone = s.initDone ∧ t.calls = .reset :: .init true s.chan.key :: s.calls)

/-! ### XBYTE -/

/-- XBYTE completes (R145, R146): at `CUR = 0` it calls `processBlock` exactly once, also when `KS` already holds that
block; at `CUR > 0` it makes no call. `RESULT` is the keystream byte at `CUR` XOR `DATA`, zero-extended; the cursor
advances, and wraps to 0 with an increment of `CTR` after the last byte; nothing else changes. -/
def Obligations.XbyteCompletes : Prop :=
  ∀ (s : State) (data : Byte) (ctr b : List Byte) (c : Nat) (x : Byte),
    s.ctr = .val ctr → s.cur = .val c → b[c]? = some x →
    (c = 0 → ∀ k, s.key = .token k → eKey s.cfg k ctr = .block b →
      ∃ buf, exec (.xbyte data) s = .next { s with
        ks := .val b
        cur := .val (if 1 = s.cfg.blockSize then 0 else 1)
        ctr := .val (if 1 = s.cfg.blockSize then inc ctr else ctr)
        result := .val ((x ^^^ data).setWidth 64), err := 0
        calls := .process ctr :: s.calls, buffering := buf, freeCount := s.freeCount + 1 }) ∧
    (0 < c → s.ks = .val b →
      exec (.xbyte data) s = .next { s with
        cur := .val (if c + 1 = s.cfg.blockSize then 0 else c + 1)
        ctr := .val (if c + 1 = s.cfg.blockSize then inc ctr else ctr)
        result := .val ((x ^^^ data).setWidth 64), err := 0 })

/-- XBYTE's line of R196: when the load at `CUR = 0` fails, `CTR` and `CUR` are as they were, `KS` is some `BS` bytes,
`RESULT` is unchanged, `STATUS.ERR` is 3, `FAULT` is set and the collaborator's value goes to the host; nothing else changes
but what stands at the collaborator port. -/
def Obligations.XbyteAbortsAtFailingLoad : Prop :=
  ∀ (s : State) (data : Byte) (ctr : List Byte) (k : KeyToken) (v : CollabErrVal),
    s.ctr = .val ctr → s.cur = .val 0 → s.key = .token k → eKey s.cfg k ctr = .failed v →
    ∃ ks buf, ks.length = s.cfg.blockSize ∧ exec (.xbyte data) s = .next { s with
      ks := .val ks, err := 3, faultMark := true, collabErr := some v
      calls := .process ctr :: s.calls, buffering := buf, freeCount := s.freeCount + 2 }

/-- R147: with no fault recorded, XBYTE at logical position `P` returns `K(P) xor b` and leaves the engine at `P + 1` modulo
`2^CW * BS`. -/
def Obligations.XbyteAtPosition : Prop :=
  ∀ (s : State) (k : KeyToken) (iv ctr : List Byte) (c : Nat) (b : Byte) (t : State),
    s.Live k iv ctr c → exec (.xbyte b) s = .next t → t.trusted →
    ∃ x ctr' c',
      keystreamByte s.cfg k iv (logicalPosition s.cfg.blockSize iv ctr c) = some x ∧
      t.result = .val ((x ^^^ b).setWidth 64) ∧ t.err = 0 ∧ t.ctr = .val ctr' ∧ t.cur = .val c' ∧
      logicalPosition s.cfg.blockSize iv ctr' c' =
        (logicalPosition s.cfg.blockSize iv ctr c + 1) % positionSpace s.cfg.blockSize

/-- R148: of two engines with the same `BS`, collaborator, IV, key and logical position, if the first is given `XBYTE b` and
returns `o`, the second, given `XBYTE o`, returns `b`. -/
def Obligations.XbyteInvolution : Prop :=
  ∀ (s₁ s₂ : State) (k : KeyToken) (iv ctr₁ ctr₂ : List Byte) (c₁ c₂ : Nat) (b o : Byte) (t₁ : State),
    s₁.Live k iv ctr₁ c₁ → s₂.Live k iv ctr₂ c₂ →
    s₁.cfg.blockSize = s₂.cfg.blockSize → s₁.cfg.collaborator = s₂.cfg.collaborator →
    logicalPosition s₁.cfg.blockSize iv ctr₁ c₁ = logicalPosition s₂.cfg.blockSize iv ctr₂ c₂ →
    exec (.xbyte b) s₁ = .next t₁ → t₁.err = 0 → t₁.result = .val (o.setWidth 64) →
    ∃ t₂, exec (.xbyte o) s₂ = .next t₂ ∧ t₂.err = 0 ∧ t₂.result = .val (b.setWidth 64)

/-! ### XBLOCK and XRANGE -/

/-- XBLOCK completes (R150, R152, R64): in a live engine whose collaborator answers, with channels of `BS` bytes or more,
output byte `i` is input byte `i` XOR the keystream byte at position `P + i`; `CTR` advances by exactly one and `CUR`
is as it was; `RESULT` is `BS`; exactly one `processBlock` call is made, whatever `CUR` is; nothing else changes. -/
def Obligations.XblockCompletes : Prop :=
  ∀ (s : State) (k : KeyToken) (iv ctr : List Byte) (c : Nat),
    s.Live k iv ctr c → collaboratorAnswers s.cfg k → s.cfg.blockSize < 2 ^ 64 →
    s.cfg.blockSize ≤ s.chan.input.length → s.cfg.blockSize ≤ s.chan.outCap →
    ∃ t blk, exec .xblock s = .next t ∧ streamFrame s t ∧
      deliveredFrom s t k iv (logicalPosition s.cfg.blockSize iv ctr c) s.cfg.blockSize ∧
      t.ctr = .val (inc ctr) ∧ t.cur = .val c ∧ t.result = .val (BitVec.ofNat 64 s.cfg.blockSize) ∧ t.err = 0 ∧
      t.faultMark = s.faultMark ∧ t.collabErr = s.collabErr ∧ t.calls = .process blk :: s.calls ∧
      blk = (if c = 0 then ctr else inc ctr)

/-- XRANGE completes (R156, R158, R64): as XBLOCK with `count = uint(OPND)` bytes; `CTR` advances by `fdiv(c + count, BS)`,
`CUR` becomes `(c + count) mod BS`, `RESULT` is `OPND`, and the number of `processBlock` calls is R158's: one for each byte
that meets `CUR = 0`. -/
def Obligations.XrangeCompletes : Prop :=
  ∀ (s : State) (k : KeyToken) (iv ctr : List Byte) (c : Nat) (w : OpWord),
    s.Live k iv ctr c → collaboratorAnswers s.cfg k → s.opnd = .val w →
    w.toNat ≤ s.chan.input.length → w.toNat ≤ s.chan.outCap →
    ∃ t l, exec .xrange s = .next t ∧ streamFrame s t ∧
      deliveredFrom s t k iv (logicalPosition s.cfg.blockSize iv ctr c) w.toNat ∧
      t.ctr = .val (addn ctr ((c + w.toNat) / s.cfg.blockSize : Nat)) ∧
      t.cur = .val ((c + w.toNat) % s.cfg.blockSize) ∧ t.result = .val w ∧ t.err = 0 ∧
      t.faultMark = s.faultMark ∧ t.collabErr = s.collabErr ∧ t.calls = l ++ s.calls ∧
      processCalls l = l.length ∧ (l.length : Int) = streamCalls s.cfg.blockSize c w.toNat ∧
      l.length = ((List.range w.toNat).filter fun j => (c + j) % s.cfg.blockSize = 0).length

/-- R195: after LengthError the state is exactly what it was before the command, except for `STATUS.ERR = 2`. -/
def Obligations.LengthErrorLeavesState : Prop :=
  ∀ (s : State) (i : Instr) (n c : Nat) (w : OpWord) (ctr : List Byte),
    streamCommand i s n w → s.cur = .val c → s.ctr = .val ctr →
    s.chan.input.length < n ∨ s.chan.outCap < n →
    exec i s = .next { s with err := 2 }

/-- R153: when the load at output byte `i` fails, bytes `0` to `i - 1` have been delivered and are correct, byte `i` and
later ones are not, `CTR` and `CUR` hold the values reached before byte `i` (so `CUR = 0`), `KS` is some `BS` bytes,
`RESULT` is unchanged, `STATUS.ERR` is 3 and `FAULT` is set. Stated of XBLOCK and of XRANGE. -/
def Obligations.StreamAbortsAtFailingLoad : Prop :=
  ∀ (s : State) (k : KeyToken) (iv ctr : List Byte) (c : Nat) (cmd : Instr) (n i m : Nat) (w : OpWord)
    (v : CollabErrVal),
    s.Live k iv ctr c → streamCommand cmd s n w → n ≤ s.chan.input.length → n ≤ s.chan.outCap →
    i < n → c + i = m * s.cfg.blockSize →
    (∀ j : Nat, j < m → c = 0 ∨ 0 < j → ∃ b, eKey s.cfg k (bytesOf s.cfg.blockSize ((be ctr : Int) + j)) = .block b) →
    eKey s.cfg k (bytesOf s.cfg.blockSize ((be ctr : Int) + m)) = .failed v →
    ∃ t ks, exec cmd s = .next t ∧ streamFrame s t ∧
      deliveredFrom s t k iv (logicalPosition s.cfg.blockSize iv ctr c) i ∧
      t.ctr = .val (bytesOf s.cfg.blockSize ((be ctr : Int) + m)) ∧ t.cur = .val 0 ∧
      t.ks = .val ks ∧ ks.length = s.cfg.blockSize ∧ t.result = s.result ∧ t.err = 3 ∧ t.faultMark = true ∧
      t.collabErr = some v

/-- R159, positional determinism: in a live engine whose collaborator answers, for any split of a byte sequence into
consecutive pieces, XRANGE over the whole gives the same output bytes and the same final `CTR` and `CUR` as the pieces one
after the other, each moved by XRANGE, by XBYTE (one byte) or by XBLOCK (`BS` bytes). -/
def Obligations.ChunkingGivesSameOutput : Prop :=
  ∀ (s : State) (k : KeyToken) (iv ctr : List Byte) (c : Nat) (pieces : List Piece),
    s.Live k iv ctr c → collaboratorAnswers s.cfg k →
    piecesFit s.cfg.blockSize pieces → (messageOf pieces).length < 2 ^ 64 →
    ∃ t u, exec .xrange (withStream (messageOf pieces) s) = .next t ∧ t.err = 0 ∧
      transformPieces pieces s = some (t.out, u) ∧ u.err = (if pieces = [] then s.err else 0) ∧
      u.ctr = t.ctr ∧ u.cur = t.cur

/-! ### SKIP, SEEK and GETPOS -/

/-- R165: SKIP moves counter and cursor by SKIPADJ of the signed `OPND`, loads `KS` with `E_key` of the new `CTR` by one
`processBlock` call whatever the new `CUR` (R166), and answers `OPND`; when the load fails the adjustment stands, `KS`
is some `BS` bytes and `RESULT` is unchanged; with `OPND` never written it is a model fault. -/
def Obligations.SkipCommand : Prop :=
  ∀ s : State,
    (∀ w ctr c k ctr' c', s.opnd = .val w → s.ctr = .val ctr → s.cur = .val c → s.key = .token k →
      skipTarget s.cfg w.toInt ctr c = (ctr', c') →
      (∀ b, eKey s.cfg k ctr' = .block b →
        ∃ buf, exec .skip s = .next { s with
          ctr := .val ctr', cur := .val c', ks := .val b, result := .val w, err := 0
          calls := .process ctr' :: s.calls, buffering := buf, freeCount := s.freeCount + 1 }) ∧
      (∀ v, eKey s.cfg k ctr' = .failed v →
        ∃ buf ks, ks.length = s.cfg.blockSize ∧ exec .skip s = .next { s with
          ctr := .val ctr', cur := .val c', ks := .val ks, err := 3, faultMark := true, collabErr := some v
          calls := .process ctr' :: s.calls, buffering := buf, freeCount := s.freeCount + 2 })) ∧
    (s.opnd = .uninit → exec .skip s = .fault (.uninitRead .opnd))

/-- R172, R173, R175: SEEK resets, then moves from `(IV, 0)` by the unsigned `OPND` on the forward branch, loads `KS` and
answers `OPND`; its two calls are one `reset` and then one `processBlock` on the final `CTR`. The premise that an INIT has
completed is R218's (log 24). -/
def Obligations.SeekCompletes : Prop :=
  ∀ (s : State) (w : OpWord) (iv : List Byte) (k : KeyToken) (b ctr' : List Byte),
    s.opnd = .val w → s.iv = .val iv → s.initDone = true → s.key = .token k →
    resetFailure s.cfg s.freeCount = none → ctr' = addn iv (w.toNat / s.cfg.blockSize : Nat) → eKey s.cfg k ctr' = .block b →
    ∃ buf, exec .seek s = .next { s with
      ctr := .val ctr', cur := .val (w.toNat % s.cfg.blockSize), ks := .val b, result := .val w, err := 0
      calls := .process ctr' :: .reset :: s.calls, buffering := buf, freeCount := s.freeCount + 2 }

/-- SEEK's lines of R196: a failing `reset`, whatever the key, leaves `CTR = IV`, the old `CUR` and the old `KS`; a failing
`processBlock` leaves `CTR` and `CUR` at the seek target and `KS` some `BS` bytes; `RESULT` is not written. The premise
that an INIT has completed is R218's (log 24). -/
def Obligations.SeekAbortsAtFailingCall : Prop :=
  ∀ (s : State) (w : OpWord) (iv : List Byte) (v : CollabErrVal),
    s.opnd = .val w → s.iv = .val iv → s.initDone = true →
    (resetFailure s.cfg s.freeCount = some v →
      ∃ t, exec .seek s = .next t ∧ t.ctr = .val iv ∧ t.cur = s.cur ∧ t.ks = s.ks ∧ t.result = s.result ∧ t.err = 3 ∧
        t.faultMark = true ∧ t.collabErr = some v ∧ t.calls = .reset :: s.calls) ∧
    (∀ k : KeyToken, s.key = .token k → resetFailure s.cfg s.freeCount = none →
      eKey s.cfg k (addn iv (w.toNat / s.cfg.blockSize : Nat)) = .failed v →
      ∃ t ks, exec .seek s = .next t ∧ t.ctr = .val (addn iv (w.toNat / s.cfg.blockSize : Nat)) ∧
        t.cur = .val (w.toNat % s.cfg.blockSize) ∧ t.ks = .val ks ∧ ks.length = s.cfg.blockSize ∧
        t.result = s.result ∧ t.err = 3 ∧ t.faultMark = true ∧ t.collabErr = some v)

/-- GETPOS completes (R178, R179): `RESULT` is `(W * BS + CUR) mod 2^64` for the window `W` of the counter's difference from
`IV`; nothing else changes but `STATUS.ERR`, and no call is made. -/
def Obligations.GetposCompletes : Prop :=
  ∀ (s : State) (iv ctr : List Byte) (c : Nat), s.iv = .val iv → s.ctr = .val ctr → s.cur = .val c →
    exec .getpos s = .next { s with
      result := .val (BitVec.ofNat 64 (window s.cfg.posWindowBytes (diff ctr iv) * s.cfg.blockSize + c)), err := 0 }

/-- R180: with `POS_WINDOW_BYTES = 8`, GETPOS returns `P mod 2^64`. -/
def Obligations.GetposReportsPosition : Prop :=
  ∀ (s : State) (iv ctr : List Byte) (c : Nat),
    s.cfg.posWindowBytes = 8 → s.iv = .val iv → s.ctr = .val ctr → s.cur = .val c →
    iv.length = s.cfg.blockSize → ctr.length = s.cfg.blockSize →
    ∃ t r, exec .getpos s = .next t ∧ t.result = .val r ∧
      r.toNat = logicalPosition s.cfg.blockSize iv ctr c % 2 ^ 64

/-- R169: under FLOOR a SKIP of `n` with no error moves the logical position from `P` to `(P + n) mod (2^CW * BS)`; under
TRUNC too, except when `0 < -n < CUR`: then to `P - CUR` (R124). -/
def Obligations.SkipMovesPosition : Prop :=
  ∀ (s t : State) (k : KeyToken) (iv ctr : List Byte) (c : Nat) (w : OpWord),
    s.Live k iv ctr c → s.opnd = .val w → exec .skip s = .next t → t.err = 0 →
    ∃ ctr' c', t.ctr = .val ctr' ∧ t.cur = .val c' ∧
      (logicalPosition s.cfg.blockSize iv ctr' c' : Int) =
        (if s.cfg.negSkipDiv = .trunc ∧ 0 < -w.toInt ∧ -w.toInt < (c : Int) then
          (logicalPosition s.cfg.blockSize iv ctr c : Int) - c
        else ((logicalPosition s.cfg.blockSize iv ctr c : Int) + w.toInt) % (positionSpace s.cfg.blockSize : Int))

/-- R174: after a SEEK `p` with no error the logical position is `p mod (2^CW * BS)`, and transforming a message from there
gives the bytes that transforming it after `p` other bytes from position 0 gives, the first `p` discarded. -/
def Obligations.SeekSetsPosition : Prop :=
  ∀ (s t : State) (k : KeyToken) (iv ctr : List Byte) (c : Nat) (w : OpWord),
    s.Live k iv ctr c → s.opnd = .val w → exec .seek s = .next t → t.err = 0 →
    (∃ ctr' c', t.ctr = .val ctr' ∧ t.cur = .val c' ∧
      logicalPosition s.cfg.blockSize iv ctr' c' = w.toNat % positionSpace s.cfg.blockSize) ∧
    (collaboratorAnswers s.cfg k → ∀ pre m : List Byte, pre.length = w.toNat → (pre ++ m).length < 2 ^ 64 →
      ∀ z u, exec .reset s = .next z → z.err = 0 → exec .xrange (withStream (pre ++ m) z) = .next u →
        ∃ u', exec .xrange (withStream m t) = .next u' ∧ u'.err = 0 ∧ u'.out = u.out.drop w.toNat)

/-- R137: after a RESET or INIT with no error the logical position is 0 and GETPOS returns 0. -/
def Obligations.ResetAndInitGoToZero : Prop :=
  ∀ (s t : State) (i : Instr), s.Inv → i = .reset ∨ (∃ k v, i = .init k v) → exec i s = .next t → t.err = 0 →
    ∃ iv u, t.iv = .val iv ∧ t.ctr = .val iv ∧ t.cur = .val 0 ∧ logicalPosition t.cfg.blockSize iv iv 0 = 0 ∧
      exec .getpos t = .next u ∧ u.result = .val 0

/-- R181: after an INIT or RESET with no error and then `k` transformed bytes, by XBYTE, XBLOCK and XRANGE in any order and no
SKIP or SEEK between, GETPOS returns `k` whenever `k < 2^64` and `k < 2^CW * BS` (`POS_WINDOW_BYTES = 8`). -/
def Obligations.PositionCountsTransformedBytes : Prop :=
  ∀ (s z : State) (i : Instr) (key : KeyToken) (pieces : List Piece),
    s.Inv → s.cfg.posWindowBytes = 8 → i = .reset ∨ (∃ k v, i = .init k v) →
    exec i s = .next z → z.err = 0 → z.key = .token key → collaboratorAnswers s.cfg key →
    piecesFit s.cfg.blockSize pieces →
    (messageOf pieces).length < 2 ^ 64 → (messageOf pieces).length < positionSpace s.cfg.blockSize →
    ∃ o t u, transformPieces pieces z = some (o, t) ∧ exec .getpos t = .next u ∧
      u.result = .val (BitVec.ofNat 64 (messageOf pieces).length)

/-- R182: if GETPOS returns `q` and the true position `P` satisfies `P < 2^64`, then `SEEK q` restores the same counter and
cursor and loads `KS = E_key(CTR)` (`POS_WINDOW_BYTES = 8`). -/
def Obligations.SeekOfGetposRestores : Prop :=
  ∀ (s t u : State) (k : KeyToken) (iv ctr : List Byte) (c : Nat) (q : OpWord),
    s.Live k iv ctr c → s.cfg.posWindowBytes = 8 → logicalPosition s.cfg.blockSize iv ctr c < 2 ^ 64 →
    exec .getpos s = .next t → t.result = .val q →
    exec .seek { t with opnd := .val q } = .next u → u.err = 0 →
    u.ctr = .val ctr ∧ u.cur = .val c ∧ ∃ b, u.ks = .val b ∧ eKey s.cfg k ctr = .block b

/-- R225: the keystream is periodic, `K(p + 2^CW * BS) = K(p)`; with `BS = 1` the period is 256 bytes, with `BS = 4` it is
`2^34`. -/
def Obligations.KeystreamIsPeriodic : Prop :=
  (∀ (c : Config) (k : KeyToken) (iv : List Byte) (p : Nat), 1 ≤ c.blockSize →
    keystreamByte c k iv (p + positionSpace c.blockSize) = keystreamByte c k iv p) ∧
  positionSpace 1 = 256 ∧ positionSpace 4 = 2 ^ 34

/-! ### Model faults -/

/-- R218: until an INIT has completed every command but INIT is a model fault, whatever its channels. Before any INIT (`IV`,
`CTR` and `CUR` `uninit`) it is the read of an `uninit` element (R203; for XBLOCK and XRANGE with a short channel the model
follows R218, log 13); after an INIT that a CollaboratorError aborted too (the model's reading of R218 and I1, log 24). -/
def Obligations.UninitialisedEngineFaults : Prop :=
  (∀ (s : State) (i : Instr), s.iv = .uninit → s.ctr = .uninit → s.cur = .uninit → (∀ k v, i ≠ .init k v) →
    ∃ e, exec i s = .fault (.uninitRead e)) ∧
  (∀ (s : State) (i : Instr), s.Inv → s.initDone = false → (∀ k v, i ≠ .init k v) → ∃ f, exec i s = .fault f)

/-- R203: XRANGE, SKIP or SEEK with `OPND` never written is a model fault; so is a keystream load while the collaborator key
is `absent`, in every command that loads: XBYTE at `CUR = 0`; SKIP; SEEK once its reset has not failed; XBLOCK and XRANGE,
with channels long enough, when a byte to move meets `CUR = 0`, the first or one at the next block boundary. -/
def Obligations.UndefinedReadsFault : Prop :=
  (∀ s : State, s.opnd = .uninit →
    exec .xrange s = .fault (.uninitRead .opnd) ∧ exec .skip s = .fault (.uninitRead .opnd) ∧
    exec .seek s = .fault (.uninitRead .opnd)) ∧
  (∀ (s : State) (ctr : List Byte), s.key = .absent → s.ctr = .val ctr →
    (∀ data, s.cur = .val 0 → exec (.xbyte data) s = .fault .keyAbsent) ∧
    (∀ c w, s.cur = .val c → s.opnd = .val w → exec .skip s = .fault .keyAbsent)) ∧
  (∀ (s : State) (iv : List Byte) (w : OpWord), s.key = .absent → s.opnd = .val w → s.iv = .val iv → s.initDone = true →
    resetFailure s.cfg s.freeCount = none → exec .seek s = .fault .keyAbsent) ∧
  (∀ (s : State) (cmd : Instr) (n c : Nat) (w : OpWord) (ctr ks : List Byte),
    s.key = .absent → streamCommand cmd s n w → s.ctr = .val ctr → s.cur = .val c →
    n ≤ s.chan.input.length → n ≤ s.chan.outCap →
    (c = 0 ∧ 0 < n) ∨ (0 < c ∧ c < s.cfg.blockSize ∧ s.ks = .val ks ∧ ks.length = s.cfg.blockSize ∧
      s.cfg.blockSize - c < n) →
    exec cmd s = .fault .keyAbsent)

/-! ### Rules of the whole machine -/

/-- The access table R50, for every command and every outcome with a next state: which elements a command leaves alone. -/
def Obligations.AccessTable : Prop :=
  ∀ (i : Instr) (s t : State), exec i s = .next t →
    (t.cfg = s.cfg ∧ t.opnd = s.opnd ∧ t.cmd = s.cmd ∧ t.chan = s.chan ∧ t.cmdIndex = s.cmdIndex ∧ t.host = s.host ∧
      t.hostData = s.hostData) ∧
    ((∀ k v, i ≠ .init k v) → t.iv = s.iv ∧ t.key = s.key ∧ t.initDone = s.initDone) ∧
    (∀ v, i = .init false v → t.key = s.key) ∧
    (i = .getpos → t.ctr = s.ctr ∧ t.cur = s.cur ∧ t.calls = s.calls) ∧
    (i = .reset ∨ i = .getpos ∨ (∃ k v, i = .init k v) → t.ks = s.ks) ∧
    (i = .reset ∨ (∃ k v, i = .init k v) → t.result = s.result) ∧
    (i ≠ .xblock → i ≠ .xrange → t.out = s.out)

/-- R190: which outcome codes a command can report: CONFIG only INIT, LENGTH only XBLOCK and XRANGE, COLLAB every command
but GETPOS, and ILLEGAL and the codes 5 to 7 no command. -/
def Obligations.OutcomeCodes : Prop :=
  ∀ (i : Instr) (s t : State), exec i s = .next t →
    (t.err = 0 ∨ t.err = 1 ∨ t.err = 2 ∨ t.err = 3) ∧
    (t.err = 1 → ∃ k v, i = .init k v) ∧ (t.err = 2 → i = .xblock ∨ i = .xrange) ∧ (t.err = 3 → i ≠ .getpos)

/-- R197: a CollaboratorError sets the `FAULT` marker, nothing else that has a next state sets it, and no step clears it
(that the hardware reset input does not is the model's reading, log 9). -/
def Obligations.FaultMarkerIsSticky : Prop :=
  (∀ (i : Instr) (s t : State), exec i s = .next t → t.faultMark = (s.faultMark || (t.err == 3))) ∧
  (∀ s t : State, step s = .next t → s.faultMark = true → t.faultMark = true)

/-- `RESULT` is written on successful completion only (R44), by a transform or position command. -/
def Obligations.ErrorsLeaveResult : Prop :=
  ∀ (i : Instr) (s t : State), exec i s = .next t → t.err ≠ 0 → t.result = s.result

/-- R232: the collaborator calls a command makes when it completes without error; and an error before effects makes none. -/
def Obligations.CollaboratorCallCounts : Prop :=
  ∀ (i : Instr) (s t : State), s.Inv → exec i s = .next t →
    (t.err = 1 ∨ t.err = 2 → t.calls = s.calls) ∧
    (t.err = 0 → ∃ l, t.calls = l ++ s.calls ∧
      (∀ k v, i = .init k v → initCalls l = (if k then 1 else 0) ∧ resetCalls l = 1 ∧ processCalls l = 0) ∧
      (i = .reset → initCalls l = 0 ∧ resetCalls l = 1 ∧ processCalls l = 0) ∧
      (∀ d, i = .xbyte d → initCalls l = 0 ∧ resetCalls l = 0 ∧ processCalls l = (if s.cur = .val 0 then 1 else 0)) ∧
      (i = .xblock → initCalls l = 0 ∧ resetCalls l = 0 ∧ processCalls l = 1) ∧
      (i = .xrange → initCalls l = 0 ∧ resetCalls l = 0 ∧ ∀ c w, s.cur = .val c → s.opnd = .val w →
        (processCalls l : Int) = streamCalls s.cfg.blockSize c w.toNat) ∧
      (i = .skip → initCalls l = 0 ∧ resetCalls l = 0 ∧ processCalls l = 1) ∧
      (i = .seek → initCalls l = 0 ∧ resetCalls l = 1 ∧ processCalls l = 1) ∧
      (i = .getpos → l = []))

/-- R52: once written, `IV`, `CTR` and `CUR` are never `uninit` again, and an engine whose first INIT completed stays
initialised (but for the hardware reset input, R216). -/
def Obligations.InitialisedStaysInitialised : Prop :=
  ∀ (s t : State), (∀ rest, s.host ≠ .resetInput :: rest) → step s = .next t →
    (s.iv ≠ .uninit → t.iv ≠ .uninit) ∧ (s.ctr ≠ .uninit → t.ctr ≠ .uninit) ∧ (s.cur ≠ .uninit → t.cur ≠ .uninit) ∧
    (s.initDone = true → t.initDone = true)

/-- The invariant of 10_state.md section 3 (`State.Inv`: R37, R38, R190, R157) is kept by every step. -/
def Obligations.StepKeepsInvariant : Prop := ∀ s t : State, s.Inv → step s = .next t → t.Inv

/-- The invariant holds at power-on of every engine with `BS >= 1`, the model's reset state among them. -/
def Obligations.PowerOnHasInvariant : Prop :=
  (∀ c : Config, c.wellFormed = true → (State.powerOn c).Inv) ∧ State.reset.Inv

/-- R75: engines share no state: a step of one engine of a system changes no other, depends on no other, and steps of two
engines give the same system in either order. -/
def Obligations.EnginesAreIndependent : Prop :=
  (∀ (sys sys' : List State) (n : Nat), stepAt n sys = .next sys' →
    sys'.length = sys.length ∧ (∀ m, m ≠ n → sys'[m]? = sys[m]?) ∧
    (∀ s, sys[n]? = some s → ∃ t, step s = .next t ∧ sys'[n]? = some t)) ∧
  (∀ (sys a b : List State) (n m : Nat), n ≠ m → stepAt n sys = .next a → stepAt m sys = .next b →
    ∃ c, stepAt m a = .next c ∧ stepAt n b = .next c)

/-! ### Assembler syntax -/

/-- R96: the expansions of the pseudo-commands, and when SKIPBLK is valid. -/
def Obligations.PseudoCommandExpansions : Prop :=
  ∀ (bs : Nat),
    (∀ n l cap, lineActions bs (.encrypt n l cap) = lineActions bs (.xrange n l cap) ∧
      lineActions bs (.decrypt n l cap) = lineActions bs (.xrange n l cap)) ∧
    (∀ iv, lineActions bs (.setIv iv) = lineActions bs (.init iv none)) ∧
    (∀ iv k, lineActions bs (.rekey iv k) = lineActions bs (.init iv (some k))) ∧
    lineActions bs .rewind = lineActions bs (.seek 0) ∧
    (∀ m : Int, lineActions bs (.skipBlk m) = lineActions bs (.skip (m * bs))) ∧
    (∀ m : Int, (Line.skipBlk m).wellFormed bs = true ↔ -2 ^ 63 ≤ m * bs ∧ m * bs < 2 ^ 63)

/-- R89 with R95, for well-formed lines: the operand written to `OPND` is the one the command reads (SKIP the signed offset,
SEEK the unsigned position, XRANGE the unsigned count); `DATA` is XBYTE's byte; INIT has `V = 1` with `iv=` and `V = 0` with
`noiv`, `K = 1` exactly when `key=` is present, the IV bytes and the key on their channels; XBLOCK and XRANGE have the IN
bytes on theirs, and `out_cap` defaults to `BS` and to the count; and the words written decode to the commands. -/
def Obligations.LinesWriteTheirOperands : Prop :=
  ∀ (bs : Nat),
    (∀ n : Int, (Line.skip n).wellFormed bs = true → ∃ v w ch,
      lineActions bs (.skip n) = [.writeOpnd v, .writeCmd w ch] ∧ skipOffset v = n ∧ decode w = .command .skip) ∧
    (∀ p : Nat, (Line.seek p).wellFormed bs = true → ∃ v w ch,
      lineActions bs (.seek p) = [.writeOpnd v, .writeCmd w ch] ∧ seekPosition v = p ∧ decode w = .command .seek) ∧
    (∀ (n : Nat) (l : List Nat) (cap : Option Nat), (Line.xrange n l cap).wellFormed bs = true → ∃ v w ch,
      lineActions bs (.xrange n l cap) = [.writeOpnd v, .writeCmd w ch] ∧ rangeCount v = n ∧
      decode w = .command .xrange ∧ ch.input.map BitVec.toNat = l ∧ ch.outCap = cap.getD n) ∧
    (∀ b : Nat, (Line.xbyte b).wellFormed bs = true → ∃ w ch d,
      lineActions bs (.xbyte b) = [.writeCmd w ch] ∧ decode w = .command (.xbyte d) ∧ d.toNat = b) ∧
    (∀ (iv : List Nat) (key : Option KeyToken), (Line.init iv key).wellFormed bs = true → ∃ w ch,
      lineActions bs (.init iv key) = [.writeCmd w ch] ∧ decode w = .command (.init key.isSome true) ∧
      ch.iv.map BitVec.toNat = iv ∧ ∀ k, key = some k → ch.key = k) ∧
    (∀ key : Option KeyToken, ∃ w ch,
      lineActions bs (.initNoIv key) = [.writeCmd w ch] ∧ decode w = .command (.init key.isSome false) ∧
      ∀ k, key = some k → ch.key = k) ∧
    (∀ (l : List Nat) (cap : Option Nat), (Line.xblock l cap).wellFormed bs = true → ∃ w ch,
      lineActions bs (.xblock l cap) = [.writeCmd w ch] ∧ decode w = .command .xblock ∧
      ch.input.map BitVec.toNat = l ∧ ch.outCap = cap.getD bs)

/-! ### Register offsets -/

/-- R70, `REG_OFFSETS`: where no two registers share an offset, a bus access at a register's offset is the host access to
that register, and there is none anywhere else. That offsets are distinct, that a 32-bit register takes the low half of a
bus word and that other offsets hold nothing is the model's choice (log 25). -/
def Obligations.BusAccessesReachTheirRegister : Prop :=
  ∀ (c : Config) (v : OpWord) (ch : Channels), c.regOffsets.wellFormed = true →
    (busRead c c.regOffsets.cmd = some .readCmd ∧ busWrite c c.regOffsets.cmd v ch = some (.writeCmd (v.setWidth 32) ch)) ∧
    (busRead c c.regOffsets.opnd = some .readOpnd ∧ busWrite c c.regOffsets.opnd v ch = some (.writeOpnd v)) ∧
    (busRead c c.regOffsets.result = some .readResult ∧
      busWrite c c.regOffsets.result v ch = some (.writeResult v)) ∧
    (busRead c c.regOffsets.status = some .readStatus ∧
      busWrite c c.regOffsets.status v ch = some (.writeStatus (v.setWidth 32))) ∧
    (∀ a, a ≠ c.regOffsets.cmd → a ≠ c.regOffsets.opnd → a ≠ c.regOffsets.result → a ≠ c.regOffsets.status →
      busRead c a = none ∧ busWrite c a v ch = none)
end

