-- ==== Sys2Proof/Laws/Counter.lean ====
section
/-! SUPPORT. The small lemmas of the counter unit: the empty buffer and the head of each chain, and the length each
operation keeps (10_state.md R37). -/

namespace Sys2Proof.Machine

@[simp] theorem be_nil : be [] = 0 := rfl

theorem be_cons (b : Byte) (l : List Byte) : be (b :: l) = b.toNat * 256 ^ l.length + be l := rfl

theorem counterSpace_eq (n : Nat) : counterSpace n = 256 ^ n := by
  rw [counterSpace, Nat.pow_mul]

theorem counterSpace_pos (n : Nat) : 0 < counterSpace n := Nat.pow_pos (by decide)

/-- A buffer's value is a `CW`-bit number (R13). -/
theorem be_lt (l : List Byte) : be l < 256 ^ l.length := by
  induction l with
  | nil => simp
  | cons b l ih =>
    have hb : b.toNat + 1 ≤ 256 := b.isLt
    have := Nat.mul_le_mul_right (256 ^ l.length) hb
    rw [be_cons, List.length_cons, Nat.pow_succ]
    rw [Nat.add_mul] at this
    omega

@[simp] theorem digits_length (n v : Nat) : (digits n v).length = n := by
  induction n with
  | zero => rfl
  | succ n ih => simp [digits, ih]

@[simp] theorem bytesOf_length (n : Nat) (v : Int) : (bytesOf n v).length = n := digits_length _ _

@[simp] theorem incChain_length (l : List Byte) : (incChain l).2.length = l.length := by
  induction l with
  | nil => rfl
  | cons b l ih => simp only [incChain]; split <;> simp [ih]

@[simp] theorem inc_length (l : List Byte) : (inc l).length = l.length := incChain_length l

@[simp] theorem decChain_length (l : List Byte) : (decChain l).2.length = l.length := by
  induction l with
  | nil => rfl
  | cons b l ih => simp only [decChain]; split <;> simp [ih]

@[simp] theorem dec_length (l : List Byte) : (dec l).length = l.length := decChain_length l

theorem addChain_length (a d : List Byte) (h : a.length = d.length) : (addChain a d).2.length = a.length := by
  induction a generalizing d with
  | nil => simp [addChain]
  | cons x a ih =>
    cases d with
    | nil => simp at h
    | cons y d => simpa [addChain] using ih d (by simpa using h)

theorem subChain_length (a d : List Byte) (h : a.length = d.length) : (subChain a d).2.length = a.length := by
  induction a generalizing d with
  | nil => simp [subChain]
  | cons x a ih =>
    cases d with
    | nil => simp at h
    | cons y d => simpa [subChain] using ih d (by simpa using h)

@[simp] theorem addNat_length (a : List Byte) (k : Nat) : (addNat a k).length = a.length :=
  addChain_length a _ (by simp)

@[simp] theorem subNat_length (a : List Byte) (k : Nat) : (subNat a k).length = a.length :=
  subChain_length a _ (by simp)

@[simp] theorem addn_length (a : List Byte) (k : Int) : (addn a k).length = a.length := by
  unfold addn; split <;> simp

@[simp] theorem subn_length (a : List Byte) (k : Int) : (subn a k).length = a.length := by
  unfold subn; split <;> simp

theorem diff_length (c i : List Byte) (h : c.length = i.length) : (diff c i).length = c.length :=
  subChain_length c i h

/-- The skip adjustment keeps the counter's length, in both branches and under both divisions (R37, R121, R122). -/
@[simp] theorem skipTarget_length (c : Config) (n : Int) (ctr : List Byte) (cur : Nat) :
    (skipTarget c n ctr cur).1.length = ctr.length := by
  unfold skipTarget skipForward skipBackward skipBackwardBy
  split
  · simp
  · dsimp only
    split <;> simp

/-- The forward branch leaves the cursor in `[0, BS)` (R121). -/
theorem skipForward_cur_lt (bs n : Nat) (ctr : List Byte) (cur : Nat) (h : 1 ≤ bs) :
    (skipForward bs n ctr cur).2 < bs := by
  have := Nat.mod_lt (n + cur) h
  have := Nat.div_add_mod (n + cur) bs
  simp only [skipForward]
  omega

end Sys2Proof.Machine
end

