-- ==== Sys2Proof/Laws/State.lean ====
section
/-! SUPPORT. What each update of the state leaves in each field: one lemma per field per update, true by `rfl`, so that
no later proof unfolds a record update. -/

namespace Sys2Proof.Machine

@[simp] theorem State.setErr_cfg (e : Err) (s : State) : (s.setErr e).cfg = s.cfg := rfl
@[simp] theorem State.setErr_iv (e : Err) (s : State) : (s.setErr e).iv = s.iv := rfl
@[simp] theorem State.setErr_ctr (e : Err) (s : State) : (s.setErr e).ctr = s.ctr := rfl
@[simp] theorem State.setErr_ks (e : Err) (s : State) : (s.setErr e).ks = s.ks := rfl
@[simp] theorem State.setErr_cur (e : Err) (s : State) : (s.setErr e).cur = s.cur := rfl
@[simp] theorem State.setErr_cmd (e : Err) (s : State) : (s.setErr e).cmd = s.cmd := rfl
@[simp] theorem State.setErr_opnd (e : Err) (s : State) : (s.setErr e).opnd = s.opnd := rfl
@[simp] theorem State.setErr_result (e : Err) (s : State) : (s.setErr e).result = s.result := rfl
@[simp] theorem State.setErr_err (e : Err) (s : State) : (s.setErr e).err = errCode e := rfl
@[simp] theorem State.setErr_key (e : Err) (s : State) : (s.setErr e).key = s.key := rfl
@[simp] theorem State.setErr_buffering (e : Err) (s : State) : (s.setErr e).buffering = s.buffering := rfl
@[simp] theorem State.setErr_faultMark (e : Err) (s : State) : (s.setErr e).faultMark = s.faultMark := rfl
@[simp] theorem State.setErr_initDone (e : Err) (s : State) : (s.setErr e).initDone = s.initDone := rfl
@[simp] theorem State.setErr_chan (e : Err) (s : State) : (s.setErr e).chan = s.chan := rfl
@[simp] theorem State.setErr_out (e : Err) (s : State) : (s.setErr e).out = s.out := rfl
@[simp] theorem State.setErr_collabErr (e : Err) (s : State) : (s.setErr e).collabErr = s.collabErr := rfl
@[simp] theorem State.setErr_cmdIndex (e : Err) (s : State) : (s.setErr e).cmdIndex = s.cmdIndex := rfl
@[simp] theorem State.setErr_host (e : Err) (s : State) : (s.setErr e).host = s.host := rfl
@[simp] theorem State.setErr_hostData (e : Err) (s : State) : (s.setErr e).hostData = s.hostData := rfl
@[simp] theorem State.setErr_calls (e : Err) (s : State) : (s.setErr e).calls = s.calls := rfl
@[simp] theorem State.setErr_freeCount (e : Err) (s : State) : (s.setErr e).freeCount = s.freeCount := rfl

@[simp] theorem State.setIv_cfg (a : List Byte) (s : State) : (s.setIv a).cfg = s.cfg := rfl
@[simp] theorem State.setIv_iv (a : List Byte) (s : State) : (s.setIv a).iv = .val a := rfl
@[simp] theorem State.setIv_ctr (a : List Byte) (s : State) : (s.setIv a).ctr = s.ctr := rfl
@[simp] theorem State.setIv_ks (a : List Byte) (s : State) : (s.setIv a).ks = s.ks := rfl
@[simp] theorem State.setIv_cur (a : List Byte) (s : State) : (s.setIv a).cur = s.cur := rfl
@[simp] theorem State.setIv_cmd (a : List Byte) (s : State) : (s.setIv a).cmd = s.cmd := rfl
@[simp] theorem State.setIv_opnd (a : List Byte) (s : State) : (s.setIv a).opnd = s.opnd := rfl
@[simp] theorem State.setIv_result (a : List Byte) (s : State) : (s.setIv a).result = s.result := rfl
@[simp] theorem State.setIv_err (a : List Byte) (s : State) : (s.setIv a).err = s.err := rfl
@[simp] theorem State.setIv_key (a : List Byte) (s : State) : (s.setIv a).key = s.key := rfl
@[simp] theorem State.setIv_buffering (a : List Byte) (s : State) : (s.setIv a).buffering = s.buffering := rfl
@[simp] theorem State.setIv_faultMark (a : List Byte) (s : State) : (s.setIv a).faultMark = s.faultMark := rfl
@[simp] theorem State.setIv_initDone (a : List Byte) (s : State) : (s.setIv a).initDone = s.initDone := rfl
@[simp] theorem State.setIv_chan (a : List Byte) (s : State) : (s.setIv a).chan = s.chan := rfl
@[simp] theorem State.setIv_out (a : List Byte) (s : State) : (s.setIv a).out = s.out := rfl
@[simp] theorem State.setIv_collabErr (a : List Byte) (s : State) : (s.setIv a).collabErr = s.collabErr := rfl
@[simp] theorem State.setIv_cmdIndex (a : List Byte) (s : State) : (s.setIv a).cmdIndex = s.cmdIndex := rfl
@[simp] theorem State.setIv_host (a : List Byte) (s : State) : (s.setIv a).host = s.host := rfl
@[simp] theorem State.setIv_hostData (a : List Byte) (s : State) : (s.setIv a).hostData = s.hostData := rfl
@[simp] theorem State.setIv_calls (a : List Byte) (s : State) : (s.setIv a).calls = s.calls := rfl
@[simp] theorem State.setIv_freeCount (a : List Byte) (s : State) : (s.setIv a).freeCount = s.freeCount := rfl

@[simp] theorem State.setCtr_cfg (a : List Byte) (s : State) : (s.setCtr a).cfg = s.cfg := rfl
@[simp] theorem State.setCtr_iv (a : List Byte) (s : State) : (s.setCtr a).iv = s.iv := rfl
@[simp] theorem State.setCtr_ctr (a : List Byte) (s : State) : (s.setCtr a).ctr = .val a := rfl
@[simp] theorem State.setCtr_ks (a : List Byte) (s : State) : (s.setCtr a).ks = s.ks := rfl
@[simp] theorem State.setCtr_cur (a : List Byte) (s : State) : (s.setCtr a).cur = s.cur := rfl
@[simp] theorem State.setCtr_cmd (a : List Byte) (s : State) : (s.setCtr a).cmd = s.cmd := rfl
@[simp] theorem State.setCtr_opnd (a : List Byte) (s : State) : (s.setCtr a).opnd = s.opnd := rfl
@[simp] theorem State.setCtr_result (a : List Byte) (s : State) : (s.setCtr a).result = s.result := rfl
@[simp] theorem State.setCtr_err (a : List Byte) (s : State) : (s.setCtr a).err = s.err := rfl
@[simp] theorem State.setCtr_key (a : List Byte) (s : State) : (s.setCtr a).key = s.key := rfl
@[simp] theorem State.setCtr_buffering (a : List Byte) (s : State) : (s.setCtr a).buffering = s.buffering := rfl
@[simp] theorem State.setCtr_faultMark (a : List Byte) (s : State) : (s.setCtr a).faultMark = s.faultMark := rfl
@[simp] theorem State.setCtr_initDone (a : List Byte) (s : State) : (s.setCtr a).initDone = s.initDone := rfl
@[simp] theorem State.setCtr_chan (a : List Byte) (s : State) : (s.setCtr a).chan = s.chan := rfl
@[simp] theorem State.setCtr_out (a : List Byte) (s : State) : (s.setCtr a).out = s.out := rfl
@[simp] theorem State.setCtr_collabErr (a : List Byte) (s : State) : (s.setCtr a).collabErr = s.collabErr := rfl
@[simp] theorem State.setCtr_cmdIndex (a : List Byte) (s : State) : (s.setCtr a).cmdIndex = s.cmdIndex := rfl
@[simp] theorem State.setCtr_host (a : List Byte) (s : State) : (s.setCtr a).host = s.host := rfl
@[simp] theorem State.setCtr_hostData (a : List Byte) (s : State) : (s.setCtr a).hostData = s.hostData := rfl
@[simp] theorem State.setCtr_calls (a : List Byte) (s : State) : (s.setCtr a).calls = s.calls := rfl
@[simp] theorem State.setCtr_freeCount (a : List Byte) (s : State) : (s.setCtr a).freeCount = s.freeCount := rfl

@[simp] theorem State.setKs_cfg (a : List Byte) (s : State) : (s.setKs a).cfg = s.cfg := rfl
@[simp] theorem State.setKs_iv (a : List Byte) (s : State) : (s.setKs a).iv = s.iv := rfl
@[simp] theorem State.setKs_ctr (a : List Byte) (s : State) : (s.setKs a).ctr = s.ctr := rfl
@[simp] theorem State.setKs_ks (a : List Byte) (s : State) : (s.setKs a).ks = .val a := rfl
@[simp] theorem State.setKs_cur (a : List Byte) (s : State) : (s.setKs a).cur = s.cur := rfl
@[simp] theorem State.setKs_cmd (a : List Byte) (s : State) : (s.setKs a).cmd = s.cmd := rfl
@[simp] theorem State.setKs_opnd (a : List Byte) (s : State) : (s.setKs a).opnd = s.opnd := rfl
@[simp] theorem State.setKs_result (a : List Byte) (s : State) : (s.setKs a).result = s.result := rfl
@[simp] theorem State.setKs_err (a : List Byte) (s : State) : (s.setKs a).err = s.err := rfl
@[simp] theorem State.setKs_key (a : List Byte) (s : State) : (s.setKs a).key = s.key := rfl
@[simp] theorem State.setKs_buffering (a : List Byte) (s : State) : (s.setKs a).buffering = s.buffering := rfl
@[simp] theorem State.setKs_faultMark (a : List Byte) (s : State) : (s.setKs a).faultMark = s.faultMark := rfl
@[simp] theorem State.setKs_initDone (a : List Byte) (s : State) : (s.setKs a).initDone = s.initDone := rfl
@[simp] theorem State.setKs_chan (a : List Byte) (s : State) : (s.setKs a).chan = s.chan := rfl
@[simp] theorem State.setKs_out (a : List Byte) (s : State) : (s.setKs a).out = s.out := rfl
@[simp] theorem State.setKs_collabErr (a : List Byte) (s : State) : (s.setKs a).collabErr = s.collabErr := rfl
@[simp] theorem State.setKs_cmdIndex (a : List Byte) (s : State) : (s.setKs a).cmdIndex = s.cmdIndex := rfl
@[simp] theorem State.setKs_host (a : List Byte) (s : State) : (s.setKs a).host = s.host := rfl
@[simp] theorem State.setKs_hostData (a : List Byte) (s : State) : (s.setKs a).hostData = s.hostData := rfl
@[simp] theorem State.setKs_calls (a : List Byte) (s : State) : (s.setKs a).calls = s.calls := rfl
@[simp] theorem State.setKs_freeCount (a : List Byte) (s : State) : (s.setKs a).freeCount = s.freeCount := rfl

@[simp] theorem State.setCur_cfg (c : Nat) (s : State) : (s.setCur c).cfg = s.cfg := rfl
@[simp] theorem State.setCur_iv (c : Nat) (s : State) : (s.setCur c).iv = s.iv := rfl
@[simp] theorem State.setCur_ctr (c : Nat) (s : State) : (s.setCur c).ctr = s.ctr := rfl
@[simp] theorem State.setCur_ks (c : Nat) (s : State) : (s.setCur c).ks = s.ks := rfl
@[simp] theorem State.setCur_cur (c : Nat) (s : State) : (s.setCur c).cur = .val c := rfl
@[simp] theorem State.setCur_cmd (c : Nat) (s : State) : (s.setCur c).cmd = s.cmd := rfl
@[simp] theorem State.setCur_opnd (c : Nat) (s : State) : (s.setCur c).opnd = s.opnd := rfl
@[simp] theorem State.setCur_result (c : Nat) (s : State) : (s.setCur c).result = s.result := rfl
@[simp] theorem State.setCur_err (c : Nat) (s : State) : (s.setCur c).err = s.err := rfl
@[simp] theorem State.setCur_key (c : Nat) (s : State) : (s.setCur c).key = s.key := rfl
@[simp] theorem State.setCur_buffering (c : Nat) (s : State) : (s.setCur c).buffering = s.buffering := rfl
@[simp] theorem State.setCur_faultMark (c : Nat) (s : State) : (s.setCur c).faultMark = s.faultMark := rfl
@[simp] theorem State.setCur_initDone (c : Nat) (s : State) : (s.setCur c).initDone = s.initDone := rfl
@[simp] theorem State.setCur_chan (c : Nat) (s : State) : (s.setCur c).chan = s.chan := rfl
@[simp] theorem State.setCur_out (c : Nat) (s : State) : (s.setCur c).out = s.out := rfl
@[simp] theorem State.setCur_collabErr (c : Nat) (s : State) : (s.setCur c).collabErr = s.collabErr := rfl
@[simp] theorem State.setCur_cmdIndex (c : Nat) (s : State) : (s.setCur c).cmdIndex = s.cmdIndex := rfl
@[simp] theorem State.setCur_host (c : Nat) (s : State) : (s.setCur c).host = s.host := rfl
@[simp] theorem State.setCur_hostData (c : Nat) (s : State) : (s.setCur c).hostData = s.hostData := rfl
@[simp] theorem State.setCur_calls (c : Nat) (s : State) : (s.setCur c).calls = s.calls := rfl
@[simp] theorem State.setCur_freeCount (c : Nat) (s : State) : (s.setCur c).freeCount = s.freeCount := rfl

@[simp] theorem State.setResult_cfg (w : OpWord) (s : State) : (s.setResult w).cfg = s.cfg := rfl
@[simp] theorem State.setResult_iv (w : OpWord) (s : State) : (s.setResult w).iv = s.iv := rfl
@[simp] theorem State.setResult_ctr (w : OpWord) (s : State) : (s.setResult w).ctr = s.ctr := rfl
@[simp] theorem State.setResult_ks (w : OpWord) (s : State) : (s.setResult w).ks = s.ks := rfl
@[simp] theorem State.setResult_cur (w : OpWord) (s : State) : (s.setResult w).cur = s.cur := rfl
@[simp] theorem State.setResult_cmd (w : OpWord) (s : State) : (s.setResult w).cmd = s.cmd := rfl
@[simp] theorem State.setResult_opnd (w : OpWord) (s : State) : (s.setResult w).opnd = s.opnd := rfl
@[simp] theorem State.setResult_result (w : OpWord) (s : State) : (s.setResult w).result = .val w := rfl
@[simp] theorem State.setResult_err (w : OpWord) (s : State) : (s.setResult w).err = s.err := rfl
@[simp] theorem State.setResult_key (w : OpWord) (s : State) : (s.setResult w).key = s.key := rfl
@[simp] theorem State.setResult_buffering (w : OpWord) (s : State) : (s.setResult w).buffering = s.buffering := rfl
@[simp] theorem State.setResult_faultMark (w : OpWord) (s : State) : (s.setResult w).faultMark = s.faultMark := rfl
@[simp] theorem State.setResult_initDone (w : OpWord) (s : State) : (s.setResult w).initDone = s.initDone := rfl
@[simp] theorem State.setResult_chan (w : OpWord) (s : State) : (s.setResult w).chan = s.chan := rfl
@[simp] theorem State.setResult_out (w : OpWord) (s : State) : (s.setResult w).out = s.out := rfl
@[simp] theorem State.setResult_collabErr (w : OpWord) (s : State) : (s.setResult w).collabErr = s.collabErr := rfl
@[simp] theorem State.setResult_cmdIndex (w : OpWord) (s : State) : (s.setResult w).cmdIndex = s.cmdIndex := rfl
@[simp] theorem State.setResult_host (w : OpWord) (s : State) : (s.setResult w).host = s.host := rfl
@[simp] theorem State.setResult_hostData (w : OpWord) (s : State) : (s.setResult w).hostData = s.hostData := rfl
@[simp] theorem State.setResult_calls (w : OpWord) (s : State) : (s.setResult w).calls = s.calls := rfl
@[simp] theorem State.setResult_freeCount (w : OpWord) (s : State) : (s.setResult w).freeCount = s.freeCount := rfl

@[simp] theorem State.setOpnd_cfg (w : OpWord) (s : State) : (s.setOpnd w).cfg = s.cfg := rfl
@[simp] theorem State.setOpnd_iv (w : OpWord) (s : State) : (s.setOpnd w).iv = s.iv := rfl
@[simp] theorem State.setOpnd_ctr (w : OpWord) (s : State) : (s.setOpnd w).ctr = s.ctr := rfl
@[simp] theorem State.setOpnd_ks (w : OpWord) (s : State) : (s.setOpnd w).ks = s.ks := rfl
@[simp] theorem State.setOpnd_cur (w : OpWord) (s : State) : (s.setOpnd w).cur = s.cur := rfl
@[simp] theorem State.setOpnd_cmd (w : OpWord) (s : State) : (s.setOpnd w).cmd = s.cmd := rfl
@[simp] theorem State.setOpnd_opnd (w : OpWord) (s : State) : (s.setOpnd w).opnd = .val w := rfl
@[simp] theorem State.setOpnd_result (w : OpWord) (s : State) : (s.setOpnd w).result = s.result := rfl
@[simp] theorem State.setOpnd_err (w : OpWord) (s : State) : (s.setOpnd w).err = s.err := rfl
@[simp] theorem State.setOpnd_key (w : OpWord) (s : State) : (s.setOpnd w).key = s.key := rfl
@[simp] theorem State.setOpnd_buffering (w : OpWord) (s : State) : (s.setOpnd w).buffering = s.buffering := rfl
@[simp] theorem State.setOpnd_faultMark (w : OpWord) (s : State) : (s.setOpnd w).faultMark = s.faultMark := rfl
@[simp] theorem State.setOpnd_initDone (w : OpWord) (s : State) : (s.setOpnd w).initDone = s.initDone := rfl
@[simp] theorem State.setOpnd_chan (w : OpWord) (s : State) : (s.setOpnd w).chan = s.chan := rfl
@[simp] theorem State.setOpnd_out (w : OpWord) (s : State) : (s.setOpnd w).out = s.out := rfl
@[simp] theorem State.setOpnd_collabErr (w : OpWord) (s : State) : (s.setOpnd w).collabErr = s.collabErr := rfl
@[simp] theorem State.setOpnd_cmdIndex (w : OpWord) (s : State) : (s.setOpnd w).cmdIndex = s.cmdIndex := rfl
@[simp] theorem State.setOpnd_host (w : OpWord) (s : State) : (s.setOpnd w).host = s.host := rfl
@[simp] theorem State.setOpnd_hostData (w : OpWord) (s : State) : (s.setOpnd w).hostData = s.hostData := rfl
@[simp] theorem State.setOpnd_calls (w : OpWord) (s : State) : (s.setOpnd w).calls = s.calls := rfl
@[simp] theorem State.setOpnd_freeCount (w : OpWord) (s : State) : (s.setOpnd w).freeCount = s.freeCount := rfl

@[simp] theorem State.setHostData_cfg (r : Reg OpWord) (s : State) : (s.setHostData r).cfg = s.cfg := rfl
@[simp] theorem State.setHostData_iv (r : Reg OpWord) (s : State) : (s.setHostData r).iv = s.iv := rfl
@[simp] theorem State.setHostData_ctr (r : Reg OpWord) (s : State) : (s.setHostData r).ctr = s.ctr := rfl
@[simp] theorem State.setHostData_ks (r : Reg OpWord) (s : State) : (s.setHostData r).ks = s.ks := rfl
@[simp] theorem State.setHostData_cur (r : Reg OpWord) (s : State) : (s.setHostData r).cur = s.cur := rfl
@[simp] theorem State.setHostData_cmd (r : Reg OpWord) (s : State) : (s.setHostData r).cmd = s.cmd := rfl
@[simp] theorem State.setHostData_opnd (r : Reg OpWord) (s : State) : (s.setHostData r).opnd = s.opnd := rfl
@[simp] theorem State.setHostData_result (r : Reg OpWord) (s : State) : (s.setHostData r).result = s.result := rfl
@[simp] theorem State.setHostData_err (r : Reg OpWord) (s : State) : (s.setHostData r).err = s.err := rfl
@[simp] theorem State.setHostData_key (r : Reg OpWord) (s : State) : (s.setHostData r).key = s.key := rfl
@[simp] theorem State.setHostData_buffering (r : Reg OpWord) (s : State) : (s.setHostData r).buffering = s.buffering := rfl
@[simp] theorem State.setHostData_faultMark (r : Reg OpWord) (s : State) : (s.setHostData r).faultMark = s.faultMark := rfl
@[simp] theorem State.setHostData_initDone (r : Reg OpWord) (s : State) : (s.setHostData r).initDone = s.initDone := rfl
@[simp] theorem State.setHostData_chan (r : Reg OpWord) (s : State) : (s.setHostData r).chan = s.chan := rfl
@[simp] theorem State.setHostData_out (r : Reg OpWord) (s : State) : (s.setHostData r).out = s.out := rfl
@[simp] theorem State.setHostData_collabErr (r : Reg OpWord) (s : State) : (s.setHostData r).collabErr = s.collabErr := rfl
@[simp] theorem State.setHostData_cmdIndex (r : Reg OpWord) (s : State) : (s.setHostData r).cmdIndex = s.cmdIndex := rfl
@[simp] theorem State.setHostData_host (r : Reg OpWord) (s : State) : (s.setHostData r).host = s.host := rfl
@[simp] theorem State.setHostData_hostData (r : Reg OpWord) (s : State) : (s.setHostData r).hostData = r := rfl
@[simp] theorem State.setHostData_calls (r : Reg OpWord) (s : State) : (s.setHostData r).calls = s.calls := rfl
@[simp] theorem State.setHostData_freeCount (r : Reg OpWord) (s : State) : (s.setHostData r).freeCount = s.freeCount := rfl

@[simp] theorem State.withHost_cfg (l : List HostAction) (s : State) : (s.withHost l).cfg = s.cfg := rfl
@[simp] theorem State.withHost_iv (l : List HostAction) (s : State) : (s.withHost l).iv = s.iv := rfl
@[simp] theorem State.withHost_ctr (l : List HostAction) (s : State) : (s.withHost l).ctr = s.ctr := rfl
@[simp] theorem State.withHost_ks (l : List HostAction) (s : State) : (s.withHost l).ks = s.ks := rfl
@[simp] theorem State.withHost_cur (l : List HostAction) (s : State) : (s.withHost l).cur = s.cur := rfl
@[simp] theorem State.withHost_cmd (l : List HostAction) (s : State) : (s.withHost l).cmd = s.cmd := rfl
@[simp] theorem State.withHost_opnd (l : List HostAction) (s : State) : (s.withHost l).opnd = s.opnd := rfl
@[simp] theorem State.withHost_result (l : List HostAction) (s : State) : (s.withHost l).result = s.result := rfl
@[simp] theorem State.withHost_err (l : List HostAction) (s : State) : (s.withHost l).err = s.err := rfl
@[simp] theorem State.withHost_key (l : List HostAction) (s : State) : (s.withHost l).key = s.key := rfl
@[simp] theorem State.withHost_buffering (l : List HostAction) (s : State) : (s.withHost l).buffering = s.buffering := rfl
@[simp] theorem State.withHost_faultMark (l : List HostAction) (s : State) : (s.withHost l).faultMark = s.faultMark := rfl
@[simp] theorem State.withHost_initDone (l : List HostAction) (s : State) : (s.withHost l).initDone = s.initDone := rfl
@[simp] theorem State.withHost_chan (l : List HostAction) (s : State) : (s.withHost l).chan = s.chan := rfl
@[simp] theorem State.withHost_out (l : List HostAction) (s : State) : (s.withHost l).out = s.out := rfl
@[simp] theorem State.withHost_collabErr (l : List HostAction) (s : State) : (s.withHost l).collabErr = s.collabErr := rfl
@[simp] theorem State.withHost_cmdIndex (l : List HostAction) (s : State) : (s.withHost l).cmdIndex = s.cmdIndex := rfl
@[simp] theorem State.withHost_host (l : List HostAction) (s : State) : (s.withHost l).host = l := rfl
@[simp] theorem State.withHost_hostData (l : List HostAction) (s : State) : (s.withHost l).hostData = s.hostData := rfl
@[simp] theorem State.withHost_calls (l : List HostAction) (s : State) : (s.withHost l).calls = s.calls := rfl
@[simp] theorem State.withHost_freeCount (l : List HostAction) (s : State) : (s.withHost l).freeCount = s.freeCount := rfl

@[simp] theorem State.deliver_cfg (b : Byte) (s : State) : (s.deliver b).cfg = s.cfg := rfl
@[simp] theorem State.deliver_iv (b : Byte) (s : State) : (s.deliver b).iv = s.iv := rfl
@[simp] theorem State.deliver_ctr (b : Byte) (s : State) : (s.deliver b).ctr = s.ctr := rfl
@[simp] theorem State.deliver_ks (b : Byte) (s : State) : (s.deliver b).ks = s.ks := rfl
@[simp] theorem State.deliver_cur (b : Byte) (s : State) : (s.deliver b).cur = s.cur := rfl
@[simp] theorem State.deliver_cmd (b : Byte) (s : State) : (s.deliver b).cmd = s.cmd := rfl
@[simp] theorem State.deliver_opnd (b : Byte) (s : State) : (s.deliver b).opnd = s.opnd := rfl
@[simp] theorem State.deliver_result (b : Byte) (s : State) : (s.deliver b).result = s.result := rfl
@[simp] theorem State.deliver_err (b : Byte) (s : State) : (s.deliver b).err = s.err := rfl
@[simp] theorem State.deliver_key (b : Byte) (s : State) : (s.deliver b).key = s.key := rfl
@[simp] theorem State.deliver_buffering (b : Byte) (s : State) : (s.deliver b).buffering = s.buffering := rfl
@[simp] theorem State.deliver_faultMark (b : Byte) (s : State) : (s.deliver b).faultMark = s.faultMark := rfl
@[simp] theorem State.deliver_initDone (b : Byte) (s : State) : (s.deliver b).initDone = s.initDone := rfl
@[simp] theorem State.deliver_chan (b : Byte) (s : State) : (s.deliver b).chan = s.chan := rfl
@[simp] theorem State.deliver_out (b : Byte) (s : State) : (s.deliver b).out = s.out ++ [b] := rfl
@[simp] theorem State.deliver_collabErr (b : Byte) (s : State) : (s.deliver b).collabErr = s.collabErr := rfl
@[simp] theorem State.deliver_cmdIndex (b : Byte) (s : State) : (s.deliver b).cmdIndex = s.cmdIndex := rfl
@[simp] theorem State.deliver_host (b : Byte) (s : State) : (s.deliver b).host = s.host := rfl
@[simp] theorem State.deliver_hostData (b : Byte) (s : State) : (s.deliver b).hostData = s.hostData := rfl
@[simp] theorem State.deliver_calls (b : Byte) (s : State) : (s.deliver b).calls = s.calls := rfl
@[simp] theorem State.deliver_freeCount (b : Byte) (s : State) : (s.deliver b).freeCount = s.freeCount := rfl

@[simp] theorem State.noteCall_cfg (c : CollabCall) (s : State) : (s.noteCall c).cfg = s.cfg := rfl
@[simp] theorem State.noteCall_iv (c : CollabCall) (s : State) : (s.noteCall c).iv = s.iv := rfl
@[simp] theorem State.noteCall_ctr (c : CollabCall) (s : State) : (s.noteCall c).ctr = s.ctr := rfl
@[simp] theorem State.noteCall_ks (c : CollabCall) (s : State) : (s.noteCall c).ks = s.ks := rfl
@[simp] theorem State.noteCall_cur (c : CollabCall) (s : State) : (s.noteCall c).cur = s.cur := rfl
@[simp] theorem State.noteCall_cmd (c : CollabCall) (s : State) : (s.noteCall c).cmd = s.cmd := rfl
@[simp] theorem State.noteCall_opnd (c : CollabCall) (s : State) : (s.noteCall c).opnd = s.opnd := rfl
@[simp] theorem State.noteCall_result (c : CollabCall) (s : State) : (s.noteCall c).result = s.result := rfl
@[simp] theorem State.noteCall_err (c : CollabCall) (s : State) : (s.noteCall c).err = s.err := rfl
@[simp] theorem State.noteCall_key (c : CollabCall) (s : State) : (s.noteCall c).key = s.key := rfl
@[simp] theorem State.noteCall_buffering (c : CollabCall) (s : State) : (s.noteCall c).buffering = Config.freeBuffering s.freeCount := rfl
@[simp] theorem State.noteCall_faultMark (c : CollabCall) (s : State) : (s.noteCall c).faultMark = s.faultMark := rfl
@[simp] theorem State.noteCall_initDone (c : CollabCall) (s : State) : (s.noteCall c).initDone = s.initDone := rfl
@[simp] theorem State.noteCall_chan (c : CollabCall) (s : State) : (s.noteCall c).chan = s.chan := rfl
@[simp] theorem State.noteCall_out (c : CollabCall) (s : State) : (s.noteCall c).out = s.out := rfl
@[simp] theorem State.noteCall_collabErr (c : CollabCall) (s : State) : (s.noteCall c).collabErr = s.collabErr := rfl
@[simp] theorem State.noteCall_cmdIndex (c : CollabCall) (s : State) : (s.noteCall c).cmdIndex = s.cmdIndex := rfl
@[simp] theorem State.noteCall_host (c : CollabCall) (s : State) : (s.noteCall c).host = s.host := rfl
@[simp] theorem State.noteCall_hostData (c : CollabCall) (s : State) : (s.noteCall c).hostData = s.hostData := rfl
@[simp] theorem State.noteCall_calls (c : CollabCall) (s : State) : (s.noteCall c).calls = c :: s.calls := rfl
@[simp] theorem State.noteCall_freeCount (c : CollabCall) (s : State) : (s.noteCall c).freeCount = s.freeCount + 1 := rfl

@[simp] theorem State.clearBuffering_cfg (s : State) : s.clearBuffering.cfg = s.cfg := rfl
@[simp] theorem State.clearBuffering_iv (s : State) : s.clearBuffering.iv = s.iv := rfl
@[simp] theorem State.clearBuffering_ctr (s : State) : s.clearBuffering.ctr = s.ctr := rfl
@[simp] theorem State.clearBuffering_ks (s : State) : s.clearBuffering.ks = s.ks := rfl
@[simp] theorem State.clearBuffering_cur (s : State) : s.clearBuffering.cur = s.cur := rfl
@[simp] theorem State.clearBuffering_cmd (s : State) : s.clearBuffering.cmd = s.cmd := rfl
@[simp] theorem State.clearBuffering_opnd (s : State) : s.clearBuffering.opnd = s.opnd := rfl
@[simp] theorem State.clearBuffering_result (s : State) : s.clearBuffering.result = s.result := rfl
@[simp] theorem State.clearBuffering_err (s : State) : s.clearBuffering.err = s.err := rfl
@[simp] theorem State.clearBuffering_key (s : State) : s.clearBuffering.key = s.key := rfl
@[simp] theorem State.clearBuffering_buffering (s : State) : s.clearBuffering.buffering = [] := rfl
@[simp] theorem State.clearBuffering_faultMark (s : State) : s.clearBuffering.faultMark = s.faultMark := rfl
@[simp] theorem State.clearBuffering_initDone (s : State) : s.clearBuffering.initDone = s.initDone := rfl
@[simp] theorem State.clearBuffering_chan (s : State) : s.clearBuffering.chan = s.chan := rfl
@[simp] theorem State.clearBuffering_out (s : State) : s.clearBuffering.out = s.out := rfl
@[simp] theorem State.clearBuffering_collabErr (s : State) : s.clearBuffering.collabErr = s.collabErr := rfl
@[simp] theorem State.clearBuffering_cmdIndex (s : State) : s.clearBuffering.cmdIndex = s.cmdIndex := rfl
@[simp] theorem State.clearBuffering_host (s : State) : s.clearBuffering.host = s.host := rfl
@[simp] theorem State.clearBuffering_hostData (s : State) : s.clearBuffering.hostData = s.hostData := rfl
@[simp] theorem State.clearBuffering_calls (s : State) : s.clearBuffering.calls = s.calls := rfl
@[simp] theorem State.clearBuffering_freeCount (s : State) : s.clearBuffering.freeCount = s.freeCount := rfl

@[simp] theorem State.setInitDone_cfg (s : State) : s.setInitDone.cfg = s.cfg := rfl
@[simp] theorem State.setInitDone_iv (s : State) : s.setInitDone.iv = s.iv := rfl
@[simp] theorem State.setInitDone_ctr (s : State) : s.setInitDone.ctr = s.ctr := rfl
@[simp] theorem State.setInitDone_ks (s : State) : s.setInitDone.ks = s.ks := rfl
@[simp] theorem State.setInitDone_cur (s : State) : s.setInitDone.cur = s.cur := rfl
@[simp] theorem State.setInitDone_cmd (s : State) : s.setInitDone.cmd = s.cmd := rfl
@[simp] theorem State.setInitDone_opnd (s : State) : s.setInitDone.opnd = s.opnd := rfl
@[simp] theorem State.setInitDone_result (s : State) : s.setInitDone.result = s.result := rfl
@[simp] theorem State.setInitDone_err (s : State) : s.setInitDone.err = s.err := rfl
@[simp] theorem State.setInitDone_key (s : State) : s.setInitDone.key = s.key := rfl
@[simp] theorem State.setInitDone_buffering (s : State) : s.setInitDone.buffering = s.buffering := rfl
@[simp] theorem State.setInitDone_faultMark (s : State) : s.setInitDone.faultMark = s.faultMark := rfl
@[simp] theorem State.setInitDone_initDone (s : State) : s.setInitDone.initDone = true := rfl
@[simp] theorem State.setInitDone_chan (s : State) : s.setInitDone.chan = s.chan := rfl
@[simp] theorem State.setInitDone_out (s : State) : s.setInitDone.out = s.out := rfl
@[simp] theorem State.setInitDone_collabErr (s : State) : s.setInitDone.collabErr = s.collabErr := rfl
@[simp] theorem State.setInitDone_cmdIndex (s : State) : s.setInitDone.cmdIndex = s.cmdIndex := rfl
@[simp] theorem State.setInitDone_host (s : State) : s.setInitDone.host = s.host := rfl
@[simp] theorem State.setInitDone_hostData (s : State) : s.setInitDone.hostData = s.hostData := rfl
@[simp] theorem State.setInitDone_calls (s : State) : s.setInitDone.calls = s.calls := rfl
@[simp] theorem State.setInitDone_freeCount (s : State) : s.setInitDone.freeCount = s.freeCount := rfl

@[simp] theorem State.setKey_cfg (k : KeyToken) (s : State) : (s.setKey k).cfg = s.cfg := rfl
@[simp] theorem State.setKey_iv (k : KeyToken) (s : State) : (s.setKey k).iv = s.iv := rfl
@[simp] theorem State.setKey_ctr (k : KeyToken) (s : State) : (s.setKey k).ctr = s.ctr := rfl
@[simp] theorem State.setKey_ks (k : KeyToken) (s : State) : (s.setKey k).ks = s.ks := rfl
@[simp] theorem State.setKey_cur (k : KeyToken) (s : State) : (s.setKey k).cur = s.cur := rfl
@[simp] theorem State.setKey_cmd (k : KeyToken) (s : State) : (s.setKey k).cmd = s.cmd := rfl
@[simp] theorem State.setKey_opnd (k : KeyToken) (s : State) : (s.setKey k).opnd = s.opnd := rfl
@[simp] theorem State.setKey_result (k : KeyToken) (s : State) : (s.setKey k).result = s.result := rfl
@[simp] theorem State.setKey_err (k : KeyToken) (s : State) : (s.setKey k).err = s.err := rfl
@[simp] theorem State.setKey_key (k : KeyToken) (s : State) : (s.setKey k).key = .token k := rfl
@[simp] theorem State.setKey_buffering (k : KeyToken) (s : State) : (s.setKey k).buffering = s.buffering := rfl
@[simp] theorem State.setKey_faultMark (k : KeyToken) (s : State) : (s.setKey k).faultMark = s.faultMark := rfl
@[simp] theorem State.setKey_initDone (k : KeyToken) (s : State) : (s.setKey k).initDone = s.initDone := rfl
@[simp] theorem State.setKey_chan (k : KeyToken) (s : State) : (s.setKey k).chan = s.chan := rfl
@[simp] theorem State.setKey_out (k : KeyToken) (s : State) : (s.setKey k).out = s.out := rfl
@[simp] theorem State.setKey_collabErr (k : KeyToken) (s : State) : (s.setKey k).collabErr = s.collabErr := rfl
@[simp] theorem State.setKey_cmdIndex (k : KeyToken) (s : State) : (s.setKey k).cmdIndex = s.cmdIndex := rfl
@[simp] theorem State.setKey_host (k : KeyToken) (s : State) : (s.setKey k).host = s.host := rfl
@[simp] theorem State.setKey_hostData (k : KeyToken) (s : State) : (s.setKey k).hostData = s.hostData := rfl
@[simp] theorem State.setKey_calls (k : KeyToken) (s : State) : (s.setKey k).calls = s.calls := rfl
@[simp] theorem State.setKey_freeCount (k : KeyToken) (s : State) : (s.setKey k).freeCount = s.freeCount := rfl

@[simp] theorem State.loseKey_cfg (s : State) : s.loseKey.cfg = s.cfg := rfl
@[simp] theorem State.loseKey_iv (s : State) : s.loseKey.iv = s.iv := rfl
@[simp] theorem State.loseKey_ctr (s : State) : s.loseKey.ctr = s.ctr := rfl
@[simp] theorem State.loseKey_ks (s : State) : s.loseKey.ks = s.ks := rfl
@[simp] theorem State.loseKey_cur (s : State) : s.loseKey.cur = s.cur := rfl
@[simp] theorem State.loseKey_cmd (s : State) : s.loseKey.cmd = s.cmd := rfl
@[simp] theorem State.loseKey_opnd (s : State) : s.loseKey.opnd = s.opnd := rfl
@[simp] theorem State.loseKey_result (s : State) : s.loseKey.result = s.result := rfl
@[simp] theorem State.loseKey_err (s : State) : s.loseKey.err = s.err := rfl
@[simp] theorem State.loseKey_key (s : State) : s.loseKey.key = (match Config.freeKey s.freeCount with
      | none => .absent
      | some k => .token k) := rfl
@[simp] theorem State.loseKey_buffering (s : State) : s.loseKey.buffering = s.buffering := rfl
@[simp] theorem State.loseKey_faultMark (s : State) : s.loseKey.faultMark = s.faultMark := rfl
@[simp] theorem State.loseKey_initDone (s : State) : s.loseKey.initDone = s.initDone := rfl
@[simp] theorem State.loseKey_chan (s : State) : s.loseKey.chan = s.chan := rfl
@[simp] theorem State.loseKey_out (s : State) : s.loseKey.out = s.out := rfl
@[simp] theorem State.loseKey_collabErr (s : State) : s.loseKey.collabErr = s.collabErr := rfl
@[simp] theorem State.loseKey_cmdIndex (s : State) : s.loseKey.cmdIndex = s.cmdIndex := rfl
@[simp] theorem State.loseKey_host (s : State) : s.loseKey.host = s.host := rfl
@[simp] theorem State.loseKey_hostData (s : State) : s.loseKey.hostData = s.hostData := rfl
@[simp] theorem State.loseKey_calls (s : State) : s.loseKey.calls = s.calls := rfl
@[simp] theorem State.loseKey_freeCount (s : State) : s.loseKey.freeCount = s.freeCount + 1 := rfl

@[simp] theorem State.loseKs_cfg (s : State) : s.loseKs.cfg = s.cfg := rfl
@[simp] theorem State.loseKs_iv (s : State) : s.loseKs.iv = s.iv := rfl
@[simp] theorem State.loseKs_ctr (s : State) : s.loseKs.ctr = s.ctr := rfl
@[simp] theorem State.loseKs_ks (s : State) : s.loseKs.ks = .val (freeBlock s.cfg.blockSize s.freeCount) := rfl
@[simp] theorem State.loseKs_cur (s : State) : s.loseKs.cur = s.cur := rfl
@[simp] theorem State.loseKs_cmd (s : State) : s.loseKs.cmd = s.cmd := rfl
@[simp] theorem State.loseKs_opnd (s : State) : s.loseKs.opnd = s.opnd := rfl
@[simp] theorem State.loseKs_result (s : State) : s.loseKs.result = s.result := rfl
@[simp] theorem State.loseKs_err (s : State) : s.loseKs.err = s.err := rfl
@[simp] theorem State.loseKs_key (s : State) : s.loseKs.key = s.key := rfl
@[simp] theorem State.loseKs_buffering (s : State) : s.loseKs.buffering = s.buffering := rfl
@[simp] theorem State.loseKs_faultMark (s : State) : s.loseKs.faultMark = s.faultMark := rfl
@[simp] theorem State.loseKs_initDone (s : State) : s.loseKs.initDone = s.initDone := rfl
@[simp] theorem State.loseKs_chan (s : State) : s.loseKs.chan = s.chan := rfl
@[simp] theorem State.loseKs_out (s : State) : s.loseKs.out = s.out := rfl
@[simp] theorem State.loseKs_collabErr (s : State) : s.loseKs.collabErr = s.collabErr := rfl
@[simp] theorem State.loseKs_cmdIndex (s : State) : s.loseKs.cmdIndex = s.cmdIndex := rfl
@[simp] theorem State.loseKs_host (s : State) : s.loseKs.host = s.host := rfl
@[simp] theorem State.loseKs_hostData (s : State) : s.loseKs.hostData = s.hostData := rfl
@[simp] theorem State.loseKs_calls (s : State) : s.loseKs.calls = s.calls := rfl
@[simp] theorem State.loseKs_freeCount (s : State) : s.loseKs.freeCount = s.freeCount + 1 := rfl

@[simp] theorem State.markCollab_cfg (v : CollabErrVal) (s : State) : (s.markCollab v).cfg = s.cfg := rfl
@[simp] theorem State.markCollab_iv (v : CollabErrVal) (s : State) : (s.markCollab v).iv = s.iv := rfl
@[simp] theorem State.markCollab_ctr (v : CollabErrVal) (s : State) : (s.markCollab v).ctr = s.ctr := rfl
@[simp] theorem State.markCollab_ks (v : CollabErrVal) (s : State) : (s.markCollab v).ks = s.ks := rfl
@[simp] theorem State.markCollab_cur (v : CollabErrVal) (s : State) : (s.markCollab v).cur = s.cur := rfl
@[simp] theorem State.markCollab_cmd (v : CollabErrVal) (s : State) : (s.markCollab v).cmd = s.cmd := rfl
@[simp] theorem State.markCollab_opnd (v : CollabErrVal) (s : State) : (s.markCollab v).opnd = s.opnd := rfl
@[simp] theorem State.markCollab_result (v : CollabErrVal) (s : State) : (s.markCollab v).result = s.result := rfl
@[simp] theorem State.markCollab_err (v : CollabErrVal) (s : State) : (s.markCollab v).err = s.err := rfl
@[simp] theorem State.markCollab_key (v : CollabErrVal) (s : State) : (s.markCollab v).key = s.key := rfl
@[simp] theorem State.markCollab_buffering (v : CollabErrVal) (s : State) : (s.markCollab v).buffering = s.buffering := rfl
@[simp] theorem State.markCollab_faultMark (v : CollabErrVal) (s : State) : (s.markCollab v).faultMark = true := rfl
@[simp] theorem State.markCollab_initDone (v : CollabErrVal) (s : State) : (s.markCollab v).initDone = s.initDone := rfl
@[simp] theorem State.markCollab_chan (v : CollabErrVal) (s : State) : (s.markCollab v).chan = s.chan := rfl
@[simp] theorem State.markCollab_out (v : CollabErrVal) (s : State) : (s.markCollab v).out = s.out := rfl
@[simp] theorem State.markCollab_collabErr (v : CollabErrVal) (s : State) : (s.markCollab v).collabErr = some v := rfl
@[simp] theorem State.markCollab_cmdIndex (v : CollabErrVal) (s : State) : (s.markCollab v).cmdIndex = s.cmdIndex := rfl
@[simp] theorem State.markCollab_host (v : CollabErrVal) (s : State) : (s.markCollab v).host = s.host := rfl
@[simp] theorem State.markCollab_hostData (v : CollabErrVal) (s : State) : (s.markCollab v).hostData = s.hostData := rfl
@[simp] theorem State.markCollab_calls (v : CollabErrVal) (s : State) : (s.markCollab v).calls = s.calls := rfl
@[simp] theorem State.markCollab_freeCount (v : CollabErrVal) (s : State) : (s.markCollab v).freeCount = s.freeCount := rfl

@[simp] theorem State.accept_cfg (w : CmdWord) (ch : Channels) (s : State) : (s.accept w ch).cfg = s.cfg := rfl
@[simp] theorem State.accept_iv (w : CmdWord) (ch : Channels) (s : State) : (s.accept w ch).iv = s.iv := rfl
@[simp] theorem State.accept_ctr (w : CmdWord) (ch : Channels) (s : State) : (s.accept w ch).ctr = s.ctr := rfl
@[simp] theorem State.accept_ks (w : CmdWord) (ch : Channels) (s : State) : (s.accept w ch).ks = s.ks := rfl
@[simp] theorem State.accept_cur (w : CmdWord) (ch : Channels) (s : State) : (s.accept w ch).cur = s.cur := rfl
@[simp] theorem State.accept_cmd (w : CmdWord) (ch : Channels) (s : State) : (s.accept w ch).cmd = w := rfl
@[simp] theorem State.accept_opnd (w : CmdWord) (ch : Channels) (s : State) : (s.accept w ch).opnd = s.opnd := rfl
@[simp] theorem State.accept_result (w : CmdWord) (ch : Channels) (s : State) : (s.accept w ch).result = s.result := rfl
@[simp] theorem State.accept_err (w : CmdWord) (ch : Channels) (s : State) : (s.accept w ch).err = s.err := rfl
@[simp] theorem State.accept_key (w : CmdWord) (ch : Channels) (s : State) : (s.accept w ch).key = s.key := rfl
@[simp] theorem State.accept_buffering (w : CmdWord) (ch : Channels) (s : State) : (s.accept w ch).buffering = s.buffering := rfl
@[simp] theorem State.accept_faultMark (w : CmdWord) (ch : Channels) (s : State) : (s.accept w ch).faultMark = s.faultMark := rfl
@[simp] theorem State.accept_initDone (w : CmdWord) (ch : Channels) (s : State) : (s.accept w ch).initDone = s.initDone := rfl
@[simp] theorem State.accept_chan (w : CmdWord) (ch : Channels) (s : State) : (s.accept w ch).chan = ch := rfl
@[simp] theorem State.accept_out (w : CmdWord) (ch : Channels) (s : State) : (s.accept w ch).out = [] := rfl
@[simp] theorem State.accept_collabErr (w : CmdWord) (ch : Channels) (s : State) : (s.accept w ch).collabErr = none := rfl
@[simp] theorem State.accept_cmdIndex (w : CmdWord) (ch : Channels) (s : State) : (s.accept w ch).cmdIndex = s.cmdIndex + 1 := rfl
@[simp] theorem State.accept_host (w : CmdWord) (ch : Channels) (s : State) : (s.accept w ch).host = s.host := rfl
@[simp] theorem State.accept_hostData (w : CmdWord) (ch : Channels) (s : State) : (s.accept w ch).hostData = s.hostData := rfl
@[simp] theorem State.accept_calls (w : CmdWord) (ch : Channels) (s : State) : (s.accept w ch).calls = s.calls := rfl
@[simp] theorem State.accept_freeCount (w : CmdWord) (ch : Channels) (s : State) : (s.accept w ch).freeCount = s.freeCount := rfl

end Sys2Proof.Machine
end

