-- ==== Sys2Proof/Laws/Ops.lean ====
section
/-! SUPPORT. What each shared operation can do, said once: a proof cites these and does not unfold the operation. -/

namespace Sys2Proof.Machine

/-! ### Sequencing, reading and finishing -/

@[simp] theorem Res.bind_ok {α β : Type} (a : α) (s : State) (k : α → State → Res β) :
    (Res.ok a s).bind k = k a s := rfl

@[simp] theorem Res.bind_raised {α β : Type} (e : Err) (s : State) (k : α → State → Res β) :
    (Res.raised e s).bind k = .raised e s := rfl

@[simp] theorem Res.bind_stop {α β : Type} (f : Fault) (k : α → State → Res β) :
    (Res.stop f).bind k = .stop f := rfl

@[simp] theorem raiseCollab_bind {α β : Type} (v : CollabErrVal) (s : State) (k : α → State → Res β) :
    (raiseCollab v s).bind k = raiseCollab v s := rfl

@[simp] theorem readReg_val {α β : Type} (e : Element) (a : α) (k : α → Res β) : readReg e (.val a) k = k a := rfl

@[simp] theorem readReg_uninit {α β : Type} (e : Element) (k : α → Res β) :
    readReg e .uninit k = .stop (.uninitRead e) := rfl

@[simp] theorem finish_ok (s : State) : finish (.ok () s) = .next (s.setErr .ok) := rfl

@[simp] theorem finish_raised (e : Err) (s : State) : finish (.raised e s) = .next (s.setErr e) := rfl

@[simp] theorem finish_stop (f : Fault) : finish (.stop f) = .fault f := rfl

/-- A command that answers a next state either completed, or raised an error. -/
theorem finish_next {r : Res Unit} {t : State} (h : finish r = .next t) :
    (∃ s, r = .ok () s ∧ t = s.setErr .ok) ∨ (∃ e s, r = .raised e s ∧ t = s.setErr e) := by
  cases r with
  | ok a s => exact .inl ⟨s, rfl, by simpa [finish] using h.symm⟩
  | raised e s => exact .inr ⟨e, s, rfl, by simpa [finish] using h.symm⟩
  | stop f => simp [finish] at h

/-- `finish` answers no refusal. -/
theorem finish_not_refused {r : Res Unit} {q : Refusal} : finish r ≠ .refused q := by
  cases r <;> simp [finish]

/-- A sequence that completes: its first part completed, and then the rest did. -/
theorem Res.bind_eq_ok {α β : Type} {r : Res α} {k : α → State → Res β} {b : β} {t : State}
    (h : r.bind k = .ok b t) : ∃ a s, r = .ok a s ∧ k a s = .ok b t := by
  cases r with
  | ok a s => exact ⟨a, s, rfl, h⟩
  | raised e s => simp at h
  | stop f => simp at h

/-- A sequence that raises an error: its first part raised it, or completed and the rest raised it. -/
theorem Res.bind_eq_raised {α β : Type} {r : Res α} {k : α → State → Res β} {e : Err} {t : State}
    (h : r.bind k = .raised e t) : r = .raised e t ∨ ∃ a s, r = .ok a s ∧ k a s = .raised e t := by
  cases r with
  | ok a s => exact .inr ⟨a, s, rfl, h⟩
  | raised e s => exact .inl (by simpa using h)
  | stop f => simp at h

/-- An expression that gives a result read a register that holds a value. -/
theorem readReg_eq_ok {α β : Type} {e : Element} {r : Reg α} {k : α → Res β} {b : β} {t : State}
    (h : readReg e r k = .ok b t) : ∃ a, r = .val a ∧ k a = .ok b t := by
  cases r with
  | uninit => simp at h
  | val a => exact ⟨a, rfl, h⟩

/-- The same of an expression that raises an error. -/
theorem readReg_eq_raised {α β : Type} {el : Element} {r : Reg α} {k : α → Res β} {e : Err} {t : State}
    (h : readReg el r k = .raised e t) : ∃ a, r = .val a ∧ k a = .raised e t := by
  cases r with
  | uninit => simp at h
  | val a => exact ⟨a, rfl, h⟩

/-! ### The collaborator -/

@[simp] theorem freeBlock_length (bs n : Nat) : (freeBlock bs n).length = bs := by simp [freeBlock]

@[simp] theorem markFrom_length (i : Nat) (l : List Byte) : (markFrom i l).length = l.length := by
  induction l generalizing i with
  | nil => rfl
  | cons b l ih => simp [markFrom, ih]

/-- A block the collaborator answers has `BS` bytes (R12, R37). -/
theorem eKey_length {c : Config} {k : KeyToken} {a b : List Byte} (ha : a.length = c.blockSize)
    (h : eKey c k a = .block b) : b.length = c.blockSize := by
  unfold eKey at h
  split at h
  · split at h
    · cases h
    · cases h; simp
  · cases h; exact ha
  · cases h; simpa using ha
  · split at h
    · cases h
    · cases h; exact ha
  · cases h; exact ha
  · cases h; exact ha

/-- `E_key` depends on the collaborator, `BS`, the key and the block alone (R12, R226). -/
theorem eKey_congr {c d : Config} (k : KeyToken) (a : List Byte) (h1 : c.collaborator = d.collaborator)
    (h2 : c.blockSize = d.blockSize) : eKey c k a = eKey d k a := by
  unfold eKey; rw [h1, h2]

/-- What `CallInit` can do (R18, R47, R196). -/
theorem callInit_cases (k : KeyToken) (s : State) :
    (initFailure s.cfg k s.freeCount = none ∧ callInit k s = .ok () ((s.noteCall (.init true k)).setKey k)) ∨
    (∃ v, initFailure s.cfg k s.freeCount = some v ∧
      callInit k s = .raised .collab (((s.noteCall (.init true k)).loseKey).markCollab v)) := by
  unfold callInit raiseCollab
  cases h : initFailure s.cfg k s.freeCount with
  | none => exact .inl ⟨rfl, rfl⟩
  | some v => exact .inr ⟨v, rfl, rfl⟩

/-- What `CallReset` can do (R18, R47, R196). -/
theorem callReset_cases (s : State) :
    (resetFailure s.cfg s.freeCount = none ∧ callReset s = .ok () ((s.noteCall .reset).clearBuffering)) ∨
    (∃ v, resetFailure s.cfg s.freeCount = some v ∧
      callReset s = .raised .collab ((s.noteCall .reset).markCollab v)) := by
  unfold callReset raiseCollab
  cases h : resetFailure s.cfg s.freeCount with
  | none => exact .inl ⟨rfl, rfl⟩
  | some v => exact .inr ⟨v, rfl, rfl⟩

/-! ### The keystream unit -/

/-- What KSLOAD can do (R118): it completes, fails at the collaborator, or is a model fault. -/
theorem ksload_cases (s : State) :
    (s.ctr = .uninit ∧ ksload s = .stop (.uninitRead .ctr)) ∨
    (∃ ctr, s.ctr = .val ctr ∧ s.key = .absent ∧ ksload s = .stop .keyAbsent) ∨
    (∃ ctr k b, s.ctr = .val ctr ∧ s.key = .token k ∧ eKey s.cfg k ctr = .block b ∧
      ksload s = .ok () ((s.noteCall (.process ctr)).setKs b)) ∨
    (∃ ctr k v, s.ctr = .val ctr ∧ s.key = .token k ∧ eKey s.cfg k ctr = .failed v ∧
      ksload s = .raised .collab (((s.noteCall (.process ctr)).loseKs).markCollab v)) := by
  unfold ksload raiseCollab
  cases hc : s.ctr with
  | uninit => exact .inl ⟨rfl, rfl⟩
  | val ctr =>
    cases hk : s.key with
    | absent => exact .inr (.inl ⟨ctr, rfl, rfl, rfl⟩)
    | token k =>
      cases he : eKey s.cfg k ctr with
      | block b => exact .inr (.inr (.inl ⟨ctr, k, b, rfl, rfl, he, by simp [he]⟩))
      | failed v => exact .inr (.inr (.inr ⟨ctr, k, v, rfl, rfl, he, by simp [he]⟩))

/-- What the XOR datapath can do (R119): it writes no state and raises no error. -/
theorem xorByte_cases (b : Byte) (s : State) :
    (∃ ks cur x, s.ks = .val ks ∧ s.cur = .val cur ∧ ks[cur]? = some x ∧ xorByte b s = .ok (x ^^^ b) s) ∨
    (∃ f, xorByte b s = .stop f) := by
  unfold xorByte
  cases hk : s.ks with
  | uninit => exact .inr ⟨_, rfl⟩
  | val ks =>
    cases hc : s.cur with
    | uninit => exact .inr ⟨_, rfl⟩
    | val cur =>
      cases hx : ks[cur]? with
      | none => exact .inr ⟨.noSuchByte cur, by simp [hx]⟩
      | some x => exact .inl ⟨ks, cur, x, rfl, rfl, hx, by simp [hx]⟩

/-- What ADVANCE can do (R120): the cursor moves on; or it wraps to 0 and the counter is incremented. -/
theorem advance_cases (s : State) :
    (∃ cur, s.cur = .val cur ∧ cur + 1 ≠ s.cfg.blockSize ∧ advance s = .ok () (s.setCur (cur + 1))) ∨
    (∃ cur ctr, s.cur = .val cur ∧ s.ctr = .val ctr ∧ cur + 1 = s.cfg.blockSize ∧
      advance s = .ok () ((s.setCur 0).setCtr (inc ctr))) ∨
    (∃ f, advance s = .stop f) := by
  unfold advance
  cases hc : s.cur with
  | uninit => exact .inr (.inr ⟨_, rfl⟩)
  | val cur =>
    by_cases hw : cur + 1 = s.cfg.blockSize
    · cases ht : s.ctr with
      | uninit => exact .inr (.inr ⟨.uninitRead .ctr, by simp [hw]⟩)
      | val ctr => exact .inr (.inl ⟨cur, ctr, rfl, rfl, hw, by simp [hw]⟩)
    · exact .inl ⟨cur, rfl, hw, by simp [hw]⟩

/-! ### Positions, RESET_BODY and BYTE_BODY -/

/-- What the skip adjustment can do (R121, R122): no collaborator call, no keystream, no error. -/
theorem skipAdj_cases (n : Int) (s : State) :
    (∃ ctr cur, s.ctr = .val ctr ∧ s.cur = .val cur ∧
      skipAdj n s = .ok () ((s.setCtr (skipTarget s.cfg n ctr cur).1).setCur (skipTarget s.cfg n ctr cur).2)) ∨
    (∃ f, skipAdj n s = .stop f) := by
  unfold skipAdj
  cases hc : s.cur with
  | uninit => exact .inr ⟨_, rfl⟩
  | val cur =>
    cases ht : s.ctr with
    | uninit => exact .inr ⟨_, rfl⟩
    | val ctr => exact .inl ⟨ctr, cur, rfl, rfl, rfl⟩

/-- What RESET_BODY can do (R136). -/
theorem resetBody_cases (s : State) :
    (s.iv = .uninit ∧ resetBody s = .stop (.uninitRead .iv)) ∨
    (∃ iv, s.iv = .val iv ∧ resetFailure s.cfg s.freeCount = none ∧
      resetBody s = .ok () ((((s.setCtr iv).noteCall .reset).clearBuffering).setCur 0)) ∨
    (∃ iv v, s.iv = .val iv ∧ resetFailure s.cfg s.freeCount = some v ∧
      resetBody s = .raised .collab (((s.setCtr iv).noteCall .reset).markCollab v)) := by
  unfold resetBody
  cases hi : s.iv with
  | uninit => exact .inl ⟨rfl, rfl⟩
  | val iv =>
    rcases callReset_cases (s.setCtr iv) with ⟨h, e⟩ | ⟨v, h, e⟩
    · exact .inr (.inl ⟨iv, rfl, h, by simp [e]⟩)
    · exact .inr (.inr ⟨iv, v, rfl, h, by simp [e]⟩)

/-- What RESET_BODY can do as RESET and SEEK run it (R136, R218): a model fault before the first good INIT, and RESET_BODY
after it. -/
theorem resetAfterInit_cases (s : State) :
    (s.iv = .uninit ∧ resetAfterInit s = .stop (.uninitRead .iv)) ∨
    (∃ iv, s.iv = .val iv ∧ s.initDone = false ∧ resetAfterInit s = .stop .beforeInit) ∨
    (s.initDone = true ∧ resetAfterInit s = resetBody s) := by
  unfold resetAfterInit
  cases hi : s.iv with
  | uninit => exact .inl ⟨rfl, rfl⟩
  | val iv =>
    cases hd : s.initDone with
    | false => exact .inr (.inl ⟨iv, rfl, rfl, rfl⟩)
    | true => exact .inr (.inr ⟨rfl, rfl⟩)

/-- When BYTE_BODY completes: the state in which the byte was XORed is `s`, or at `CUR = 0` the state after KSLOAD; the
cursor then advanced (R145). -/
theorem byteBody_eq_ok {b o : Byte} {s t : State} (h : byteBody b s = .ok o t) :
    ∃ c s1 ks x, s.cur = .val c ∧ (c = 0 ∧ ksload s = .ok () s1 ∨ c ≠ 0 ∧ s1 = s) ∧
      s1.cur = .val c ∧ s1.ks = .val ks ∧ ks[c]? = some x ∧ o = x ^^^ b ∧ advance s1 = .ok () t := by
  obtain ⟨c, hc, h⟩ := readReg_eq_ok h
  obtain ⟨_, s1, h1, h⟩ := Res.bind_eq_ok h
  obtain ⟨o', s2, h2, h⟩ := Res.bind_eq_ok h
  obtain ⟨_, s3, h3, h⟩ := Res.bind_eq_ok h
  obtain ⟨rfl, rfl⟩ : o' = o ∧ s3 = t := by simpa using h
  have hs1 : c = 0 ∧ ksload s = .ok () s1 ∨ c ≠ 0 ∧ s1 = s := by
    by_cases h0 : c = 0
    · exact .inl ⟨h0, by simpa [h0] using h1⟩
    · exact .inr ⟨h0, by simpa [h0] using h1.symm⟩
  have hcur : s1.cur = .val c := by
    rcases hs1 with ⟨_, hl⟩ | ⟨_, rfl⟩
    · rcases ksload_cases s with ⟨_, e⟩ | ⟨_, _, _, e⟩ | ⟨ctr, k, b', _, _, _, e⟩ | ⟨_, _, _, _, _, _, e⟩ <;>
        rw [e] at hl <;> cases hl
      simpa using hc
    · exact hc
  rcases xorByte_cases b s1 with ⟨ks, cur, x, hk, hc', hx, e⟩ | ⟨f, e⟩
  · rw [e] at h2
    obtain ⟨rfl, rfl⟩ : x ^^^ b = o' ∧ s1 = s2 := by simpa using h2
    obtain rfl : c = cur := by simpa [hcur] using hc'
    exact ⟨c, s1, ks, x, hc, hs1, hcur, hk, hx, rfl, h3⟩
  · rw [e] at h2; cases h2

/-- When BYTE_BODY raises an error it is the keystream load that failed, at `CUR = 0` (R145). -/
theorem byteBody_eq_raised {b : Byte} {s t : State} {e : Err} (h : byteBody b s = .raised e t) :
    s.cur = .val 0 ∧ ksload s = .raised e t := by
  obtain ⟨c, hc, h⟩ := readReg_eq_raised h
  rcases Res.bind_eq_raised h with h | ⟨_, s1, _, h⟩
  · by_cases h0 : c = 0
    · exact ⟨by rw [hc, h0], by simpa [h0] using h⟩
    · simp [h0] at h
  · rcases Res.bind_eq_raised h with h | ⟨_, s2, _, h⟩
    · rcases xorByte_cases b s1 with ⟨_, _, _, _, _, _, e'⟩ | ⟨f, e'⟩ <;> rw [e'] at h <;> cases h
    · rcases Res.bind_eq_raised h with h | ⟨_, s3, _, h⟩
      · rcases advance_cases s2 with ⟨_, _, _, e'⟩ | ⟨_, _, _, _, _, e'⟩ | ⟨f, e'⟩ <;> rw [e'] at h <;> cases h
      · cases h

/-- The loop of the stream commands takes one byte at a time (R150, R156). -/
theorem transformBytes_append (l l' : List Byte) (s : State) :
    transformBytes (l ++ l') s = (transformBytes l s).bind fun _ s1 => transformBytes l' s1 := by
  induction l generalizing s with
  | nil => rfl
  | cons b l ih =>
    simp only [List.cons_append, transformBytes]
    cases byteBody b s with
    | ok o s1 => simp [ih]
    | raised e s1 => rfl
    | stop f => rfl

/-- What one byte body and the delivery of its byte keep, the loop of the stream commands keeps, when it completes. -/
theorem transformBytes_ok_induction {P : State → Prop}
    (hstep : ∀ (b o : Byte) (s t : State), P s → byteBody b s = .ok o t → P (t.deliver o)) :
    ∀ (l : List Byte) (s t : State), P s → transformBytes l s = .ok () t → P t := by
  intro l
  induction l with
  | nil => intro s t hs h; cases h; exact hs
  | cons b l ih =>
    intro s t hs h
    obtain ⟨o, s1, h1, h2⟩ := Res.bind_eq_ok h
    exact ih (s1.deliver o) t (hstep b o s s1 hs h1) h2

/-- The loop raises an error only where a keystream load fails: some prefix of the bytes completed, and the load at the
next byte, with `CUR = 0`, raised it (R153). -/
theorem transformBytes_eq_raised :
    ∀ (l : List Byte) (s t : State) (e : Err), transformBytes l s = .raised e t →
      ∃ (l1 : List Byte) (b : Byte) (l2 : List Byte) (s1 : State), l = l1 ++ b :: l2 ∧
        transformBytes l1 s = .ok () s1 ∧ s1.cur = .val 0 ∧ ksload s1 = .raised e t := by
  intro l
  induction l with
  | nil => intro s t e h; cases h
  | cons b l ih =>
    intro s t e h
    rcases Res.bind_eq_raised h with h | ⟨o, s1, h1, h2⟩
    · obtain ⟨h0, hl⟩ := byteBody_eq_raised h
      exact ⟨[], b, l, s, rfl, rfl, h0, hl⟩
    · obtain ⟨l1, b', l2, s2, rfl, hr, h0, hl⟩ := ih _ t e h2
      exact ⟨b :: l1, b', l2, s2, rfl, by simp [transformBytes, h1, hr], h0, hl⟩

/-- What the stream commands can do once their operands are known (R150, R151, R156, R157). -/
theorem transformStream_cases (n : Nat) (w : OpWord) (s : State) :
    (∃ f, transformStream n w s = .stop f) ∨
    (∃ cur ctr, s.cur = .val cur ∧ s.ctr = .val ctr ∧ (s.chan.input.length < n ∨ s.chan.outCap < n) ∧
      transformStream n w s = .raised .length s) ∨
    (∃ cur ctr, s.cur = .val cur ∧ s.ctr = .val ctr ∧ n ≤ s.chan.input.length ∧ n ≤ s.chan.outCap ∧
      transformStream n w s =
        (transformBytes (s.chan.input.take n) s).bind fun _ s1 => .ok () (s1.setResult w)) := by
  unfold transformStream
  cases hc : s.cur with
  | uninit => exact .inl ⟨_, rfl⟩
  | val cur =>
    cases ht : s.ctr with
    | uninit => exact .inl ⟨_, rfl⟩
    | val ctr =>
      by_cases hs : s.chan.input.length < n ∨ s.chan.outCap < n
      · exact .inr (.inl ⟨cur, ctr, rfl, rfl, hs, by simp [shortChannel, hs]⟩)
      · refine .inr (.inr ⟨cur, ctr, rfl, rfl, by omega, by omega, ?_⟩)
        have : shortChannel s.chan n = false := by simp [shortChannel]; omega
        simp [this]

end Sys2Proof.Machine
end

