-- ==== Sys2Proof/Laws/PerInstr.lean ====
section
/-! SUPPORT. A law of every command as syntax, one lemma per constructor: its word selects its own row of the opcode map
(30_encoding.md R86). -/

namespace Sys2Proof.Laws.EncodesToItsRow

/-- The word of `i` matches the `match` and `mask` columns of its row (R86). -/
def Statement (i : Instr) : Prop := selectsRow (encode i) i = true

theorem reset : Statement .reset := rfl

theorem init (k v : Bool) : Statement (.init k v) := by cases k <;> cases v <;> rfl

theorem xbyte (data : Byte) : Statement (.xbyte data) := by
  unfold Statement; revert data; decide

theorem xblock : Statement .xblock := rfl

theorem xrange : Statement .xrange := rfl

theorem skip : Statement .skip := rfl

theorem seek : Statement .seek := rfl

theorem getpos : Statement .getpos := rfl

end Sys2Proof.Laws.EncodesToItsRow
end

