-- ==== Sys2Proof/Tests/Slice0.lean ====
section
/-! SUPPORT. Tests. Expected values are those of 95_test_vectors.md (the vector is named at each test) or are read off the
rule named; the last section shows, for each statement with hypotheses, states and operands that meet them. -/

namespace Sys2Proof.Machine

/-! ### Helpers -/

/-- An engine with `BS = bs` and the collaborator `c`, the other parameters at their defaults. -/
def testCfg (bs : Nat) (c : Collaborator) : Config := { Config.default with blockSize := bs, collaborator := c }

/-- An engine holding the key token 7, with the given `IV`, `CTR`, `KS` and `CUR`. -/
def testEngine (cfg : Config) (iv ctr ks : List Byte) (cur : Nat) : State :=
  { State.powerOn cfg with
    iv := .val iv, ctr := .val ctr, ks := .val ks, cur := .val cur, key := .token 7, initDone := true }

/-- `BS = 4`, `IV = CTR = 00 00 00 05`, `KS` loaded from an identity collaborator, the cursor at `cur`. -/
def testFive (c : Collaborator) (cur : Nat) : State :=
  testEngine (testCfg 4 c) [0, 0, 0, 5] [0, 0, 0, 5] [0, 0, 0, 5] cur

/-- An engine whose first INIT was aborted by a failing `init` call: `IV` is written, and `CTR` and `CUR` are not (R196). -/
def testAborted (c : Collaborator) : State := { State.powerOn (testCfg 4 c) with iv := .val [0, 0, 0, 5], key := .token 7 }

/-- `testFive` with the collaborator key `absent`, the operand 3 and the channels of a command that moves `n` bytes. -/
def testNoKey (cur n : Nat) : State :=
  { testFive .identity cur with
    key := .absent, opnd := .val 3, chan := { Channels.none with input := List.replicate n 0, outCap := n } }

/-- The engine with the IN channel `m` and room for `cap` bytes on OUT. -/
def State.withIn (m : List Byte) (cap : Nat) (s : State) : State :=
  { s with chan := { Channels.none with input := m, outCap := cap } }

/-- The engine with an IV channel and a key token. -/
def State.withIvKey (iv : List Byte) (key : KeyToken) (s : State) : State :=
  { s with chan := { Channels.none with iv := iv, key := key } }

/-- A field of the outcome's state. -/
def at? {α : Type} (f : State → α) (o : Host.Outcome State Fault Refusal) : Option α := (Outcome.state? o).map f

/-! ### WellFormed refuses each ill-formed term -/

theorem test_wf_config : Config.wellFormed (testCfg 0 .identity) = false ∧ Config.wellFormed (testCfg 1 .identity) = true := by
  decide
theorem test_wf_regOffsets :
    RegOffsets.wellFormed { cmd := 0, opnd := 8, result := 16, status := 8 } = false ∧
    RegOffsets.wellFormed { cmd := 0, opnd := 8, result := 16, status := 0 } = false := by decide
theorem test_wf_xbyte : (Line.xbyte 256).wellFormed 4 = false ∧ (Line.xbyte 255).wellFormed 4 = true := by decide
theorem test_wf_init : (Line.init [1, 256] none).wellFormed 4 = false ∧ (Line.setIv [256]).wellFormed 4 = false ∧
    (Line.rekey [256] 1).wellFormed 4 = false := by decide
theorem test_wf_xblock : (Line.xblock [300] none).wellFormed 4 = false := by decide
theorem test_wf_xrange_bytes : (Line.xrange 1 [256] none).wellFormed 4 = false ∧
    (Line.encrypt 1 [256] none).wellFormed 4 = false ∧ (Line.decrypt 1 [256] none).wellFormed 4 = false := by decide
theorem test_wf_xrange_count : (Line.xrange (2 ^ 64) [] none).wellFormed 4 = false ∧
    (Line.encrypt (2 ^ 64) [] none).wellFormed 4 = false ∧ (Line.decrypt (2 ^ 64) [] none).wellFormed 4 = false := by decide
theorem test_wf_skip : (Line.skip (2 ^ 63)).wellFormed 4 = false ∧ (Line.skip (-2 ^ 63 - 1)).wellFormed 4 = false ∧
    (Line.skip (-2 ^ 63)).wellFormed 4 = true := by decide
theorem test_wf_seek : (Line.seek (2 ^ 64)).wellFormed 4 = false ∧ (Line.seek (2 ^ 64 - 1)).wellFormed 4 = true := by decide
theorem test_wf_word : (Line.word (2 ^ 32)).wellFormed 4 = false := by decide
theorem test_wf_skipBlk : (Line.skipBlk (2 ^ 61)).wellFormed 4 = false ∧ (Line.skipBlk (-2 ^ 61)).wellFormed 4 = true := by
  decide

/-! ### Decode: words written out from 30_encoding.md R80 to R86 (and in 95_test_vectors.md section 2.1)

`reserved[31:16] DATA[15:8] reserved[7:6] V[5] K[4] OP[3:0]` -/

theorem test_decode_reset : decode 0b0000000000000000_00000000_00_0_0_0000 = .command .reset := by decide
theorem test_decode_init : decode 0b0000000000000000_00000000_00_0_0_0001 = .command (.init false false) ∧
    decode 0b0000000000000000_00000000_00_0_1_0001 = .command (.init true false) ∧
    decode 0b0000000000000000_00000000_00_1_0_0001 = .command (.init false true) ∧
    decode 0b0000000000000000_00000000_00_1_1_0001 = .command (.init true true) := by decide
theorem test_decode_xbyte : decode 0b0000000000000000_01011010_00_0_0_0010 = .command (.xbyte 0x5A) ∧
    decode 0b0000000000000000_11111111_00_0_0_0010 = .command (.xbyte 0xFF) := by decide
theorem test_decode_xblock : decode 0b0000000000000000_00000000_00_0_0_0011 = .command .xblock := by decide
theorem test_decode_xrange : decode 0b0000000000000000_00000000_00_0_0_0100 = .command .xrange := by decide
theorem test_decode_skip : decode 0b0000000000000000_00000000_00_0_0_0101 = .command .skip := by decide
theorem test_decode_seek : decode 0b0000000000000000_00000000_00_0_0_0110 = .command .seek := by decide
theorem test_decode_getpos : decode 0b0000000000000000_00000000_00_0_0_0111 = .command .getpos := by decide
theorem test_decode_illegal_fields : decode 0x00000010 = .illegal .keyOrIvBitOutsideInit ∧
    decode 0x00000012 = .illegal .keyOrIvBitOutsideInit ∧ decode 0x00000022 = .illegal .keyOrIvBitOutsideInit ∧
    decode 0x00000101 = .illegal .dataOutsideXbyte ∧ decode 0x00000103 = .illegal .dataOutsideXbyte := by decide
theorem test_decode_illegal_reserved : decode 0x00000041 = .illegal .reservedBits ∧
    decode 0x000000C1 = .illegal .reservedBits ∧ decode 0x00010001 = .illegal .reservedBits ∧
    decode 0x80000007 = .illegal .reservedBits ∧ decode 0x10000000 = .illegal .reservedBits ∧
    decode 0x00000008 = .illegal .reservedOpcode ∧ decode 0x0000000F = .illegal .reservedOpcode := by decide
theorem test_tableWord : decodeTableWord 32 0x00005A02 = some (.xbyte 0x5A) ∧ decodeTableWord 32 0x00000008 = none := by
  decide
theorem test_encode : encode (.init true true) = 0x00000031 ∧ encode (.xbyte 0xAA) = 0x0000AA02 ∧ encode .getpos = 7 := by
  decide

/-! ### Counter unit: vectors C1 to C16 -/

theorem test_inc : inc [0, 0, 0, 0xFF] = [0, 0, 1, 0] ∧ inc [0xFF, 0xFF, 0xFF, 0xFF] = [0, 0, 0, 0] ∧
    inc [0, 1, 0, 0] = [0, 1, 0, 1] ∧ inc [0xFF] = [0] := by decide
theorem test_dec : dec [0, 0, 0, 0] = [0xFF, 0xFF, 0xFF, 0xFF] ∧ dec [0, 1, 0, 0] = [0, 0, 0xFF, 0xFF] ∧
    dec [0] = [0xFF] := by decide
theorem test_addn : addn [0xFF, 0xFF, 0xFF, 0xFE] 3 = [0, 0, 0, 1] ∧ addn [0, 0, 0, 0] (2 ^ 32 + 5) = [0, 0, 0, 5] ∧
    addn [0, 0, 0, 0xFF] 0x101 = [0, 0, 2, 0] ∧ addn [0xFF] 300 = [0x2B] := by decide
theorem test_subn : subn [0, 0, 0, 1] 3 = [0xFF, 0xFF, 0xFF, 0xFE] ∧
    subn [0, 0, 0, 0] (2 ^ 32 + 5) = [0xFF, 0xFF, 0xFF, 0xFB] ∧ subn [0xFF] 300 = [0xD3] := by decide
theorem test_diff : diff [0, 0, 0, 0] [0xFF, 0xFF, 0xFF, 0xFE] = [0, 0, 0, 2] ∧
    diff [0x10, 0x20, 0x30, 0x40] [0x10, 0x20, 0x30, 0x41] = [0xFF, 0xFF, 0xFF, 0xFF] ∧
    diff [0, 0, 1, 0] [0, 0, 0, 0xFF] = [0, 0, 0, 1] := by decide

/-! ### Skip adjustment: vectors S3, S6, S7, S9, S12, S15, S16 (`BS = 16`, `CTR = 100`) -/

theorem test_skip_forward : skipTarget (testCfg 16 .identity) 11 (bytesOf 16 100) 5 = (bytesOf 16 101, 0) ∧
    skipTarget (testCfg 16 .identity) (2 ^ 63 - 1) (bytesOf 16 100) 3 = (bytesOf 16 0x0800000000000064, 2) := by decide
theorem test_skip_backward : skipTarget (testCfg 16 .identity) (-3) (bytesOf 16 100) 5 = (bytesOf 16 100, 2) ∧
    skipTarget (testCfg 16 .identity) (-5) (bytesOf 16 100) 5 = (bytesOf 16 100, 0) ∧
    skipTarget (testCfg 16 .identity) (-22) (bytesOf 16 100) 5 = (bytesOf 16 98, 15) ∧
    skipTarget (testCfg 16 .identity) (-16) (bytesOf 16 100) 15 = (bytesOf 16 99, 15) := by decide +kernel
theorem test_skip_wrap : skipTarget (testCfg 16 .identity) (-2 ^ 63) (bytesOf 16 100) 0 =
    (bytesOf 16 0xFFFFFFFFFFFFFFFFF800000000000064, 0) := by decide +kernel
theorem test_skip_trunc :
    skipTarget { testCfg 16 .identity with negSkipDiv := .trunc } (-3) (bytesOf 16 100) 5 = (bytesOf 16 100, 0) := by decide +kernel

/-! ### The commands, one step each -/

/-- I5: RESET copies `IV` to `CTR` and clears `CUR`; `KS` stays. -/
theorem test_reset :
    let o := exec .reset (testEngine (testCfg 4 .identity) [0x10, 0x20, 0x30, 0x40] [0x10, 0x20, 0x30, 0x43] [1, 2, 3, 4] 2)
    at? State.ctr o = some (.val [0x10, 0x20, 0x30, 0x40]) ∧ at? State.cur o = some (.val 0) ∧
      at? State.ks o = some (.val [1, 2, 3, 4]) ∧ at? State.calls o = some [.reset] := by decide

/-- I6: RESET at power-on is a model fault. -/
theorem test_reset_powerOn : exec .reset (State.powerOn (testCfg 4 .identity)) = .fault (.uninitRead .iv) := rfl

/-- RESET after a first INIT that a failing `init` call aborted: `IV` is written, and no INIT is good yet (R218). -/
theorem test_reset_aborted :
    ∃ t, exec (.init true true) ((State.powerOn (testCfg 4 (.failInit 9))).withIvKey [0, 0, 0, 5] 7) = .next t ∧
      t.iv = .val [0, 0, 0, 5] ∧ t.initDone = false ∧ exec .reset t = .fault .beforeInit := ⟨_, rfl, rfl, rfl, rfl⟩

/-- I1: INIT with IV and key; `init(true, k0)`, then `reset()`. -/
theorem test_init :
    let o := exec (.init true true) ((State.powerOn (testCfg 4 .identity)).withIvKey [0x10, 0x20, 0x30, 0x40] 7)
    at? State.iv o = some (.val [0x10, 0x20, 0x30, 0x40]) ∧ at? State.ctr o = some (.val [0x10, 0x20, 0x30, 0x40]) ∧
      at? State.cur o = some (.val 0) ∧ at? State.err o = some 0 ∧ at? State.calls o = some [.reset, .init true 7] := by decide

/-- I2, I3: a short IV, and an INIT without an IV, only write `STATUS.ERR = 1`; the key stays. -/
theorem test_init_bad :
    at? State.err (exec (.init true true) ((State.powerOn (testCfg 4 .identity)).withIvKey [0x10, 0x20, 0x30] 7)) = some 1 ∧
    at? State.key (exec (.init true false) ((testFive .identity 0).withIvKey [] 9)) = some (.token 7) := by decide

/-- X1: a load at `CUR = 0`, then `01 xor 10 = 11`. -/
theorem test_xbyte :
    let o := exec (.xbyte 1) (testEngine (testCfg 4 .identity) [0x10, 0x20, 0x30, 0x40] [0x10, 0x20, 0x30, 0x40] [9, 9, 9, 9] 0)
    at? State.result o = some (.val 0x11) ∧ at? State.cur o = some (.val 1) ∧
      at? State.ks o = some (.val [0x10, 0x20, 0x30, 0x40]) := by decide

/-- X4: no load at `CUR = 3`; the cursor wraps and the counter is incremented; `KS` stays. -/
theorem test_xbyte_wrap :
    let o := exec (.xbyte 0x0F)
      (testEngine (testCfg 4 .identity) [0x10, 0x20, 0x30, 0x40] [0x10, 0x20, 0x30, 0x40] [0x10, 0x20, 0x30, 0x40] 3)
    at? State.result o = some (.val 0x4F) ∧ at? State.cur o = some (.val 0) ∧
      at? State.ctr o = some (.val [0x10, 0x20, 0x30, 0x41]) ∧ at? State.calls o = some [] := by decide

/-- B2: XBLOCK at `CUR = 2`. -/
theorem test_xblock :
    let o := exec .xblock ((testFive .identity 2).withIn [0x11, 0x22, 0x33, 0x44] 4)
    at? State.out o = some [0x11, 0x27, 0x33, 0x44] ∧ at? State.ctr o = some (.val [0, 0, 0, 6]) ∧
      at? State.cur o = some (.val 2) ∧ at? State.result o = some (.val 4) := by decide

/-- B5: XBLOCK with `out_cap = 3` only writes `STATUS.ERR = 2`. -/
theorem test_xblock_short :
    let o := exec .xblock ((testFive .identity 2).withIn [1, 2, 3, 4] 3)
    at? State.err o = some 2 ∧ at? State.out o = some [] ∧ at? State.cur o = some (.val 2) := by decide

/-- R2: XRANGE 10 from `CUR = 3` over zeros. -/
theorem test_xrange :
    let s := testEngine (testCfg 4 .identity) [0, 0, 0, 0] [0, 0, 0, 0] [0, 0, 0, 0] 3
    let o := exec .xrange (withStream (List.replicate 10 0) s)
    at? State.out o = some [0, 0, 0, 0, 1, 0, 0, 0, 2, 0] ∧ at? State.ctr o = some (.val [0, 0, 0, 3]) ∧
      at? State.cur o = some (.val 1) ∧ at? (processCalls ∘ State.calls) o = some 3 := by decide

/-- E1: a load that fails after four bytes. -/
theorem test_xrange_fault :
    let o := exec .xrange (withStream (List.replicate 8 0) (testFive (.failAt 6) 0))
    at? State.out o = some [0, 0, 0, 5] ∧ at? State.ctr o = some (.val [0, 0, 0, 6]) ∧ at? State.err o = some 3 ∧
      at? State.faultMark o = some true := by decide

/-- P3 step 7: `SKIP -5` from `CUR = 4` with `CTR = 00×14 10 01`, MARK. -/
theorem test_skip :
    let s := testEngine (testCfg 16 .mark) (bytesOf 16 0x0FFF) (bytesOf 16 0x1001) (List.replicate 16 0) 4
    let o := exec .skip { s with opnd := .val 0xFFFFFFFFFFFFFFFB }
    at? State.ctr o = some (.val (bytesOf 16 0x1000)) ∧ at? State.cur o = some (.val 15) ∧
      at? State.result o = some (.val 0xFFFFFFFFFFFFFFFB) := by decide +kernel

/-- E2: the load of `SKIP 6` fails; counter and cursor are already adjusted. -/
theorem test_skip_fault :
    let s := testEngine (testCfg 4 (.failAt 1)) [0, 0, 0, 0] [0, 0, 0, 0] [0, 0, 0, 0] 0
    let o := exec .skip { s with opnd := .val 6 }
    at? State.ctr o = some (.val [0, 0, 0, 1]) ∧ at? State.cur o = some (.val 2) ∧ at? State.err o = some 3 ∧
      at? State.result o = some .uninit := by decide

/-- K4: `SEEK 37` with `IV = 00×14 0F FF`, MARK. -/
theorem test_seek :
    let s := testEngine (testCfg 16 .mark) (bytesOf 16 0x0FFF) (bytesOf 16 0x2000) (List.replicate 16 0) 9
    let o := exec .seek { s with opnd := .val 37 }
    at? State.ctr o = some (.val (bytesOf 16 0x1001)) ∧ at? State.cur o = some (.val 5) ∧
      at? State.ks o = some (.val [0x00, 0x11, 0x22, 0x33, 0x44, 0x55, 0x66, 0x77, 0x88, 0x99, 0xAA, 0xBB, 0xCC, 0xDD, 0xFE, 0xFE]) := by
  decide

/-- K1: `SEEK 2^64 - 1` is unsigned. -/
theorem test_seek_unsigned :
    let s := testEngine (testCfg 16 .identity) (bytesOf 16 0) (bytesOf 16 3) (bytesOf 16 0) 0
    let o := exec .seek { s with opnd := .val 0xFFFFFFFFFFFFFFFF }
    at? State.ctr o = some (.val (bytesOf 16 0x0FFFFFFFFFFFFFFF)) ∧ at? State.cur o = some (.val 15) := by decide

/-- G1, G3: position 20; and a difference of `2^64` blocks, which the window drops. -/
theorem test_getpos :
    at? State.result (exec .getpos (testEngine (testCfg 16 .identity) (bytesOf 16 0) (bytesOf 16 1) [] 4)) = some (.val 20) ∧
    at? State.result (exec .getpos (testEngine (testCfg 16 .identity) (bytesOf 16 0) (bytesOf 16 (2 ^ 64)) [] 3)) =
      some (.val 3) := by decide +kernel

/-- G6, G7: across the counter wrap; and a counter narrower than the window. -/
theorem test_getpos_narrow :
    at? State.result (exec .getpos
      (testEngine (testCfg 4 .identity) [0xFF, 0xFF, 0xFF, 0xFE] [0, 0, 0, 0] [] 2)) = some (.val 10) ∧
    at? State.result (exec .getpos
      (testEngine (testCfg 4 .identity) [0, 0, 0, 0] [0xFF, 0xFF, 0xFF, 0xFF] [] 3)) = some (.val 0x3FFFFFFFF) := by decide

/-- E3: an ILLEGAL word, even before INIT. -/
theorem test_step_illegal :
    let o := step ((State.powerOn (testCfg 4 .identity)).withFetchWord 32 0x00000008)
    at? State.err o = some 4 ∧ at? State.iv o = some .uninit := by decide

/-- E4: GETPOS at power-on is a model fault. -/
theorem test_step_getpos_powerOn : step (State.reset.withFetchWord 32 7) = .fault (.uninitRead .ctr) := rfl

/-- The first command after reset that has an effect: INIT without an IV (R130). -/
theorem test_step_init : at? State.err (step (State.reset.withFetchWord 32 0x11)) = some 1 := by decide

/-! ### The text of a command line (R95) -/

theorem test_line_init :
    readLine "INIT iv=10 20 30 40, key=k0".toList = some (.init [0x10, 0x20, 0x30, 0x40] (readToken ['k', '0'])) := by decide
theorem test_line_skip : readLine "SKIP -3".toList = some (.skip (-3)) ∧
    lineActions 16 (.skip (-3)) = [.writeOpnd 0xFFFFFFFFFFFFFFFD, .writeCmd 5 Channels.none] := by decide
theorem test_line_stream : readLine "XRANGE 4, in=01 02 03, out_cap=2".toList = some (.xrange 4 [1, 2, 3] (some 2)) := by decide

/-! ### Every statement with hypotheses has an instance that meets them -/

/-- The invariant of `testFive c cur` for a collaborator that answers the block `05`. -/
theorem testFive_inv (c : Collaborator) (cur : Nat) (h : cur < 4)
    (he : eKey (testCfg 4 c) 7 [0, 0, 0, 5] = .block [0, 0, 0, 5]) : (testFive c cur).Inv where
  blockSize_pos := by show 1 ≤ 4; decide
  iv_length := by intro a e; cases e; rfl
  ctr_length := by intro a e; cases e; rfl
  ks_length := by intro a e; cases e; rfl
  cur_lt := by intro n e; cases e; exact h
  cur_ctr := fun _ _ => ⟨_, rfl⟩
  cur_init := fun _ _ => rfl
  ctr_iv := fun _ _ => ⟨_, rfl⟩
  ks_valid := fun _ _ _ _ => ⟨7, _, _, rfl, rfl, rfl, he⟩
  err_le := Nat.zero_le 4
  out_le := Nat.le_refl 0

theorem testFive_live (c : Collaborator) (cur : Nat) (h : cur < 4)
    (he : eKey (testCfg 4 c) 7 [0, 0, 0, 5] = .block [0, 0, 0, 5]) :
    (testFive c cur).Live 7 [0, 0, 0, 5] [0, 0, 0, 5] cur :=
  { inv := testFive_inv c cur h he, trusted := rfl, key := rfl, iv := rfl, ctr := rfl, cur := rfl }

/-- Setting the host's operand and channels keeps an engine live while nothing has been delivered. -/
theorem State.Live.withHostData {s : State} {k : KeyToken} {iv ctr : List Byte} {c : Nat} (h : s.Live k iv ctr c)
    (r : Reg OpWord) (ch : Channels) (h0 : s.out = []) : ({ s with opnd := r, chan := ch } : State).Live k iv ctr c :=
  { inv := ⟨h.inv.blockSize_pos, h.inv.iv_length, h.inv.ctr_length, h.inv.ks_length, h.inv.cur_lt, h.inv.cur_ctr,
      h.inv.cur_init, h.inv.ctr_iv, h.inv.ks_valid, h.inv.err_le, by simp [h0]⟩
    trusted := h.trusted, key := h.key, iv := h.iv, ctr := h.ctr, cur := h.cur }

theorem test_identity_answers (bs : Nat) (k : KeyToken) : collaboratorAnswers (testCfg bs .identity) k :=
  fun a _ => ⟨a, rfl⟩

/-- DecodeAndEncodeAgree, DecodeFollowsOpcodeMap. -/
theorem test_hyp_decode : decode 0x00000021 = .command (.init false true) ∧ decode 0x00005A02 = .command (.xbyte 0x5A) ∧
    selectsRow 0x00000031 (.init false false) = true := by decide

/-- ReservedOpcodesAreIllegal, and each clause of MustBeZeroFieldsAreChecked. -/
theorem test_hyp_illegal :
    (0x00000008 : CmdWord).getLsbD 3 = true ∧
    ((0x00000012 : CmdWord).extractLsb' 0 4 ≠ 1 ∧ (0x00000012 : CmdWord).getLsbD 4 = true) ∧
    ((0x00000020 : CmdWord).extractLsb' 0 4 ≠ 1 ∧ (0x00000020 : CmdWord).getLsbD 5 = true) ∧
    ((0x00000103 : CmdWord).extractLsb' 0 4 ≠ 2 ∧ (0x00000103 : CmdWord).extractLsb' 8 8 ≠ 0) ∧
    (0x00000041 : CmdWord).extractLsb' 6 2 ≠ 0 ∧ (0x80000007 : CmdWord).extractLsb' 16 16 ≠ 0 := by decide

/-- StepRunsDecodedCommand and IllegalWordOnlyWritesErr. -/
theorem test_hyp_step :
    ((testFive .identity 0).withHost [.writeCmd 2 Channels.none, .readStatus]).host =
        .writeCmd 2 Channels.none :: [.readStatus] ∧ decode 2 = .command (.xbyte 0) ∧
    ((testFive .identity 0).withHost [.writeCmd 8 Channels.none]).host = .writeCmd 8 Channels.none :: [] ∧
      decode 8 = .illegal .reservedOpcode := by decide

/-- Each clause of HostRegisterAccesses. -/
theorem test_hyp_host : ∀ a : HostAction, ((testFive .identity 0).withHost [a, .readStatus]).host = a :: [.readStatus] :=
  fun _ => rfl

/-- Both clauses of HardwareResetInput. -/
theorem test_hyp_hardwareReset :
    ((testFive .identity 2).withHost [.resetInput]).host = .resetInput :: [] ∧
    ((testFive .identity 2).withHost [.resetInput]).cfg.hasResetInput = true ∧
    (({ testFive .identity 2 with cfg := { testCfg 4 .identity with hasResetInput := false } } : State).withHost
      [.resetInput]).cfg.hasResetInput = false := by decide

/-- IncLaw, DiffLaw and the clauses of WindowLaw. -/
theorem test_hyp_counter : (0x7F : Byte) ≠ 0xFF ∧ ([0, 0, 1, 0] : List Byte).length = ([0, 0, 0, 0xFF] : List Byte).length ∧
    8 ≤ (bytesOf 16 5).length ∧ ([0, 0, 1, 0] : List Byte).length < 8 := by decide

/-- SkipClosedForm and SkipRoundTrip; both clauses of TruncDeviation (`CUR = 5`, `n = -3` and `n = -5`). -/
theorem test_hyp_position :
    1 ≤ (testCfg 16 .identity).blockSize ∧ (testCfg 16 .identity).negSkipDiv = .floor ∧
    (bytesOf 16 100).length = (testCfg 16 .identity).blockSize ∧
    ({ testCfg 16 .identity with negSkipDiv := .trunc } : Config).negSkipDiv = .trunc ∧
    (5 < (testCfg 16 .identity).blockSize) ∧ (0 < -(-3 : Int) ∧ -(-3 : Int) < (5 : Nat)) ∧
    ¬ (0 < -(-5 : Int) ∧ -(-5 : Int) < (5 : Nat)) ∧
    (0 < (3 : Int) ∧ (3 : Int) < ((skipTarget { testCfg 16 .identity with negSkipDiv := .trunc } 3 (bytesOf 16 100) 2).2 : Int)) := by
  decide +kernel

/-- The three clauses of ResetCommand. -/
theorem test_hyp_reset :
    (testFive .identity 2).iv = .val [0, 0, 0, 5] ∧ (testFive .identity 2).initDone = true ∧
    resetFailure (testFive .identity 2).cfg (testFive .identity 2).freeCount = none ∧
    resetFailure (testFive (.failReset 9) 2).cfg (testFive (.failReset 9) 2).freeCount = some 9 ∧
    (State.powerOn (testCfg 4 .identity)).iv = .uninit := by decide

/-- InitRejectsBadIv, the clauses of InitCompletes and of InitAbortsAtFailingCall. -/
theorem test_hyp_init :
    ((testFive .identity 2).withIvKey [1, 2, 3] 8).chan.iv.length ≠ 4 ∧
    ((testFive .identity 2).withIvKey [1, 2, 3, 4] 8).chan.iv.length = (testFive .identity 2).cfg.blockSize ∧
    resetFailure (testCfg 4 .identity) 0 = none ∧ initFailure (testCfg 4 .identity) 8 0 = none ∧
    resetFailure (testCfg 4 .identity) 1 = none ∧ initFailure (testCfg 4 (.failInit 9)) 8 0 = some 9 ∧
    resetFailure (testCfg 4 (.failReset 9)) 0 = some 9 ∧ initFailure (testCfg 4 (.failReset 9)) 8 0 = none ∧
    resetFailure (testCfg 4 (.failReset 9)) 1 = some 9 := by decide

/-- Both clauses of XbyteCompletes, at `CUR = 0`, `CUR = 2` and the last byte, `CUR = 3`. -/
theorem test_hyp_xbyte :
    (testFive .identity 0).cur = .val 0 ∧ (testFive .identity 0).key = .token 7 ∧
    (testFive .identity 0).ctr = .val [0, 0, 0, 5] ∧
    eKey (testFive .identity 0).cfg 7 [0, 0, 0, 5] = .block [0, 0, 0, 5] ∧ ([0, 0, 0, 5] : List Byte)[0]? = some 0 ∧
    (testFive .identity 2).cur = .val 2 ∧ (testFive .identity 2).ks = .val [0, 0, 0, 5] ∧
    (testFive .identity 3).cur = .val 3 ∧ ([0, 0, 0, 5] : List Byte)[3]? = some 5 := by decide

/-- XbyteAbortsAtFailingLoad. -/
theorem test_hyp_xbyteAborts :
    (testFive (.failAt 5) 0).ctr = .val [0, 0, 0, 5] ∧ (testFive (.failAt 5) 0).cur = .val 0 ∧
    (testFive (.failAt 5) 0).key = .token 7 ∧ eKey (testFive (.failAt 5) 0).cfg 7 [0, 0, 0, 5] = .failed 5 := by
  decide +kernel

/-- XbyteAtPosition, at a first and at a last byte of a block. -/
theorem test_hyp_xbyteAt :
    ((testFive .identity 0).Live 7 [0, 0, 0, 5] [0, 0, 0, 5] 0 ∧
      ∃ t, exec (.xbyte 0x11) (testFive .identity 0) = .next t ∧ t.trusted) ∧
    ((testFive .identity 3).Live 7 [0, 0, 0, 5] [0, 0, 0, 5] 3 ∧
      ∃ t, exec (.xbyte 0x11) (testFive .identity 3) = .next t ∧ t.trusted) :=
  ⟨⟨testFive_live .identity 0 (by decide) rfl, _, rfl, rfl⟩, ⟨testFive_live .identity 3 (by decide) rfl, _, rfl, rfl⟩⟩

/-- XbyteInvolution, with two engines that differ in what their last command delivered. -/
theorem test_hyp_involution :
    (testFive .identity 1).Live 7 [0, 0, 0, 5] [0, 0, 0, 5] 1 ∧
    ({ testFive .identity 1 with opnd := .val 5, chan := Channels.none } : State).Live 7 [0, 0, 0, 5] [0, 0, 0, 5] 1 ∧
    (testFive .identity 1).cfg = ({ testFive .identity 1 with opnd := .val 5, chan := Channels.none } : State).cfg ∧
    ∃ t, exec (.xbyte 0x22) (testFive .identity 1) = .next t ∧ t.err = 0 ∧ t.result = .val ((0x22 : Byte).setWidth 64) :=
  ⟨testFive_live .identity 1 (by decide) rfl,
    (testFive_live .identity 1 (by decide) rfl).withHostData _ _ rfl, rfl, _, rfl, rfl, rfl⟩

/-- XblockCompletes, at `CUR = 0` and `CUR = 2`. -/
theorem test_hyp_xblock :
    ((testFive .identity 0).withIn [1, 2, 3, 4] 4).Live 7 [0, 0, 0, 5] [0, 0, 0, 5] 0 ∧
    ((testFive .identity 2).withIn [1, 2, 3, 4, 5] 6).Live 7 [0, 0, 0, 5] [0, 0, 0, 5] 2 ∧
    collaboratorAnswers (testFive .identity 2).cfg 7 ∧ (testFive .identity 2).cfg.blockSize < 2 ^ 64 ∧
    (testFive .identity 2).cfg.blockSize ≤ ((testFive .identity 2).withIn [1, 2, 3, 4] 4).chan.input.length ∧
    (testFive .identity 2).cfg.blockSize ≤ ((testFive .identity 2).withIn [1, 2, 3, 4] 4).chan.outCap :=
  ⟨(testFive_live .identity 0 (by decide) rfl).withHostData .uninit _ rfl,
    (testFive_live .identity 2 (by decide) rfl).withHostData .uninit _ rfl, test_identity_answers 4 7, by decide, by decide,
    by decide⟩

/-- XrangeCompletes, for 6 bytes from `CUR = 2` and for no byte. -/
theorem test_hyp_xrange :
    (withStream [1, 2, 3, 4, 5, 6] (testFive .identity 2)).Live 7 [0, 0, 0, 5] [0, 0, 0, 5] 2 ∧
    collaboratorAnswers (withStream [1, 2, 3, 4, 5, 6] (testFive .identity 2)).cfg 7 ∧
    (withStream [1, 2, 3, 4, 5, 6] (testFive .identity 2)).opnd = .val 6 ∧
    (6 : OpWord).toNat ≤ (withStream [1, 2, 3, 4, 5, 6] (testFive .identity 2)).chan.input.length ∧
    (6 : OpWord).toNat ≤ (withStream [1, 2, 3, 4, 5, 6] (testFive .identity 2)).chan.outCap ∧
    (withStream [] (testFive .identity 2)).Live 7 [0, 0, 0, 5] [0, 0, 0, 5] 2 ∧
    (withStream [] (testFive .identity 2)).opnd = .val 0 :=
  ⟨(testFive_live .identity 2 (by decide) rfl).withHostData _ _ rfl, test_identity_answers 4 7, rfl, by decide, by decide,
    (testFive_live .identity 2 (by decide) rfl).withHostData _ _ rfl, rfl⟩

/-- LengthErrorLeavesState: XBLOCK with three bytes in, XRANGE with room for three of four. -/
theorem test_hyp_length :
    (streamCommand .xblock ((testFive .identity 2).withIn [1, 2, 3] 4) 4 4 ∧ ([1, 2, 3] : List Byte).length < 4) ∧
    (streamCommand .xrange { (testFive .identity 2).withIn [1, 2, 3, 4] 3 with opnd := .val 4 } 4 4 ∧
      ((testFive .identity 2).withIn [1, 2, 3, 4] 3).chan.outCap < 4) ∧
    (testFive .identity 2).cur = .val 2 ∧ (testFive .identity 2).ctr = .val [0, 0, 0, 5] :=
  ⟨⟨.inl ⟨rfl, rfl, by simp [testFive, testEngine, State.withIn, State.powerOn, testCfg, blockSizeResult]⟩, by decide⟩,
    ⟨.inr ⟨rfl, rfl, by decide⟩, by decide⟩, rfl, rfl⟩

/-- StreamAbortsAtFailingLoad: XRANGE of 8 bytes from `CUR = 0` with FAIL6 stops at byte 4 (E1); XBLOCK from `CUR = 2` at
byte 2. -/
theorem test_hyp_abort :
    ((withStream [1, 2, 3, 4, 5, 6, 7, 8] (testFive (.failAt 6) 0)).Live 7 [0, 0, 0, 5] [0, 0, 0, 5] 0 ∧
      streamCommand .xrange (withStream [1, 2, 3, 4, 5, 6, 7, 8] (testFive (.failAt 6) 0)) 8 8 ∧
      (∀ j : Nat, j < 1 → (0 : Nat) = 0 ∨ 0 < j →
        ∃ b, eKey (testCfg 4 (.failAt 6)) 7 (bytesOf 4 ((be [0, 0, 0, 5] : Int) + j)) = .block b) ∧
      eKey (testCfg 4 (.failAt 6)) 7 (bytesOf 4 ((be [0, 0, 0, 5] : Int) + (1 : Nat))) = .failed 6 ∧ 0 + 4 = 1 * 4) ∧
    ((testFive (.failAt 6) 2).withIn [1, 2, 3, 4] 4).Live 7 [0, 0, 0, 5] [0, 0, 0, 5] 2 ∧
      streamCommand .xblock ((testFive (.failAt 6) 2).withIn [1, 2, 3, 4] 4) 4 (blockSizeResult 4) ∧
      (∀ j : Nat, j < 1 → (2 : Nat) = 0 ∨ 0 < j →
        ∃ b, eKey (testCfg 4 (.failAt 6)) 7 (bytesOf 4 ((be [0, 0, 0, 5] : Int) + j)) = .block b) ∧ 2 + 2 = 1 * 4 := by
  refine ⟨⟨(testFive_live (.failAt 6) 0 (by decide) (by decide +kernel)).withHostData _ _ rfl, .inr ⟨rfl, rfl, by decide⟩, ?_, by decide +kernel, rfl⟩,
    (testFive_live (.failAt 6) 2 (by decide) (by decide +kernel)).withHostData .uninit _ rfl, .inl ⟨rfl, rfl, rfl⟩, ?_, rfl⟩
  · intro j hj _
    obtain rfl : j = 0 := by omega
    exact ⟨[0, 0, 0, 5], by decide +kernel⟩
  · intro j hj h
    omega

/-- ChunkingGivesSameOutput: a live engine and pieces of each kind, of which one is empty. -/
theorem test_hyp_chunking :
    (testFive .identity 2).Live 7 [0, 0, 0, 5] [0, 0, 0, 5] 2 ∧ collaboratorAnswers (testFive .identity 2).cfg 7 ∧
    piecesFit (testFive .identity 2).cfg.blockSize [.range [1, 2, 3], .byte 4, .range [], .block [5, 6, 7, 8]] ∧
    (messageOf [.range [1, 2, 3], .byte 4, .range [], .block [5, 6, 7, 8]]).length < 2 ^ 64 := by
  refine ⟨testFive_live .identity 2 (by decide) rfl, test_identity_answers 4 7, ?_, by decide⟩
  intro m hm
  obtain rfl : m = [5, 6, 7, 8] := by simpa using hm
  rfl

/-- R6 of 95_test_vectors.md: XRANGE 3, XBYTE and XRANGE 6 over zeros give P2's output and end state. -/
theorem test_chunking :
    (transformPieces [.range [0, 0, 0], .byte 0, .range [0, 0, 0, 0, 0, 0]]
      (testEngine (testCfg 4 .identity) [0xFF, 0xFF, 0xFF, 0xFE] [0xFF, 0xFF, 0xFF, 0xFE] [] 0)).map
        (fun r => (r.1, r.2.ctr, r.2.cur)) =
      some ([0xFF, 0xFF, 0xFF, 0xFE, 0xFF, 0xFF, 0xFF, 0xFF, 0, 0], .val [0, 0, 0, 0], .val 2) := by decide

/-- The clauses of SkipCommand: `SKIP -3` from `CUR = 2`, the same with a collaborator that fails at the target, and
`OPND` never written. -/
theorem test_hyp_skip :
    skipTarget (testCfg 4 .identity) (0xFFFFFFFFFFFFFFFD : OpWord).toInt [0, 0, 0, 5] 2 = ([0, 0, 0, 4], 3) ∧
    eKey (testCfg 4 .identity) 7 [0, 0, 0, 4] = .block [0, 0, 0, 4] ∧
    eKey (testCfg 4 (.failAt 4)) 7 [0, 0, 0, 4] = .failed 4 ∧
    ({ testFive .identity 2 with opnd := .val 0xFFFFFFFFFFFFFFFD } : State).opnd = .val 0xFFFFFFFFFFFFFFFD ∧
    (testFive .identity 2).ctr = .val [0, 0, 0, 5] ∧ (testFive .identity 2).key = .token 7 ∧
    (testFive .identity 2).opnd = .uninit := by decide

/-- SeekCompletes and both clauses of SeekAbortsAtFailingCall: `SEEK 6` with `IV = 5`. -/
theorem test_hyp_seek :
    addn [0, 0, 0, 5] ((6 : OpWord).toNat / 4 : Nat) = [0, 0, 0, 6] ∧
    eKey (testCfg 4 .identity) 7 [0, 0, 0, 6] = .block [0, 0, 0, 6] ∧
    eKey (testCfg 4 (.failAt 6)) 7 [0, 0, 0, 6] = .failed 6 ∧
    resetFailure (testCfg 4 (.failReset 9)) 0 = some 9 ∧ resetFailure (testCfg 4 (.failAt 6)) 0 = none ∧
    ({ testFive .identity 2 with opnd := .val 6 } : State).opnd = .val 6 ∧
    (testFive .identity 2).iv = .val [0, 0, 0, 5] ∧ (testFive .identity 2).key = .token 7 ∧
    (testFive .identity 2).initDone = true := by decide

/-- GetposCompletes and GetposReportsPosition. -/
theorem test_hyp_getpos :
    (testFive .identity 2).cfg.posWindowBytes = 8 ∧ (testFive .identity 2).iv = .val [0, 0, 0, 5] ∧
    (testFive .identity 2).ctr = .val [0, 0, 0, 5] ∧ (testFive .identity 2).cur = .val 2 ∧
    ([0, 0, 0, 5] : List Byte).length = (testFive .identity 2).cfg.blockSize := by decide

/-- SkipMovesPosition: `SKIP -3` from `CUR = 2` under FLOOR; and the two sides of the exception, `SKIP -1` and `SKIP -2`. -/
theorem test_hyp_skipMoves :
    (({ testFive .identity 2 with opnd := .val 0xFFFFFFFFFFFFFFFD, chan := Channels.none } : State).Live
      7 [0, 0, 0, 5] [0, 0, 0, 5] 2 ∧
      ∃ t, exec .skip { testFive .identity 2 with opnd := .val 0xFFFFFFFFFFFFFFFD, chan := Channels.none } = .next t ∧
        t.err = 0) ∧
    (0 < -(0xFFFFFFFFFFFFFFFF : OpWord).toInt ∧ -(0xFFFFFFFFFFFFFFFF : OpWord).toInt < ((2 : Nat) : Int)) ∧
    ¬ (0 < -(0xFFFFFFFFFFFFFFFE : OpWord).toInt ∧ -(0xFFFFFFFFFFFFFFFE : OpWord).toInt < ((2 : Nat) : Int)) :=
  ⟨⟨(testFive_live .identity 2 (by decide) rfl).withHostData _ _ rfl, _, rfl, rfl⟩, by decide, by decide⟩

/-- SeekSetsPosition, with `SEEK 2` and a message of two bytes after two others. -/
theorem test_hyp_seekSets :
    ({ testFive .identity 2 with opnd := .val 2, chan := Channels.none } : State).Live 7 [0, 0, 0, 5] [0, 0, 0, 5] 2 ∧
    (∃ t, exec .seek { testFive .identity 2 with opnd := .val 2, chan := Channels.none } = .next t ∧ t.err = 0) ∧
    collaboratorAnswers (testFive .identity 2).cfg 7 ∧ ([8, 9] : List Byte).length = (2 : OpWord).toNat ∧
    ∃ z, exec .reset { testFive .identity 2 with opnd := .val 2, chan := Channels.none } = .next z ∧ z.err = 0 ∧
      ∃ u, exec .xrange (withStream ([8, 9] ++ [1, 2]) z) = .next u :=
  ⟨(testFive_live .identity 2 (by decide) rfl).withHostData _ _ rfl, ⟨_, rfl, rfl⟩, test_identity_answers 4 7, rfl,
    _, rfl, rfl, _, rfl⟩

/-- ResetAndInitGoToZero, for RESET and for INIT. -/
theorem test_hyp_zero :
    (testFive .identity 2).Inv ∧ (∃ t, exec .reset (testFive .identity 2) = .next t ∧ t.err = 0) ∧
    ((testFive .identity 2).withIvKey [1, 2, 3, 4] 8).Inv ∧
    ∃ t, exec (.init true true) ((testFive .identity 2).withIvKey [1, 2, 3, 4] 8) = .next t ∧ t.err = 0 :=
  ⟨testFive_inv .identity 2 (by decide) rfl, ⟨_, rfl, rfl⟩,
    ((testFive_live .identity 2 (by decide) rfl).withHostData .uninit _ rfl).inv, _, rfl, rfl⟩

/-- PositionCountsTransformedBytes: three bytes and a block after a RESET. -/
theorem test_hyp_positionCounts :
    (testFive .identity 2).Inv ∧ (testFive .identity 2).cfg.posWindowBytes = 8 ∧
    (∃ z, exec .reset (testFive .identity 2) = .next z ∧ z.err = 0 ∧ z.key = .token 7) ∧
    collaboratorAnswers (testFive .identity 2).cfg 7 ∧
    piecesFit (testFive .identity 2).cfg.blockSize [.range [1, 2, 3], .block [5, 6, 7, 8]] ∧
    (messageOf [.range [1, 2, 3], .block [5, 6, 7, 8]]).length < 2 ^ 64 ∧
    (messageOf [.range [1, 2, 3], .block [5, 6, 7, 8]]).length < positionSpace 4 := by
  refine ⟨testFive_inv .identity 2 (by decide) rfl, rfl, ⟨_, rfl, rfl, rfl⟩, test_identity_answers 4 7, ?_, by decide, by decide⟩
  intro m hm
  obtain rfl : m = [5, 6, 7, 8] := by simpa using hm
  rfl

/-- SeekOfGetposRestores, at position 2. -/
theorem test_hyp_seekOfGetpos :
    (testFive .identity 2).Live 7 [0, 0, 0, 5] [0, 0, 0, 5] 2 ∧ (testFive .identity 2).cfg.posWindowBytes = 8 ∧
    logicalPosition 4 [0, 0, 0, 5] [0, 0, 0, 5] 2 < 2 ^ 64 ∧
    ∃ t, exec .getpos (testFive .identity 2) = .next t ∧ t.result = .val 2 ∧
      ∃ u, exec .seek { t with opnd := .val 2 } = .next u ∧ u.err = 0 :=
  ⟨testFive_live .identity 2 (by decide) rfl, rfl, by decide, _, rfl, rfl, _, rfl, rfl⟩

/-- KeystreamIsPeriodic. -/
theorem test_hyp_periodic : 1 ≤ (testCfg 4 .identity).blockSize := by decide

/-- UninitialisedEngineFaults: a powered-on engine, and one whose first INIT was aborted. -/
theorem test_hyp_uninitialised :
    (State.powerOn (testCfg 4 .identity)).iv = .uninit ∧ (State.powerOn (testCfg 4 .identity)).ctr = .uninit ∧
    (State.powerOn (testCfg 4 .identity)).cur = .uninit ∧ (∀ k v, Instr.xblock ≠ .init k v) ∧
    (testAborted .identity).Inv ∧ (testAborted .identity).initDone = false :=
  ⟨rfl, rfl, rfl, (by decide),
    { blockSize_pos := by show 1 ≤ 4; decide
      iv_length := by intro a e; cases e; rfl
      ctr_length := fun _ e => by cases e
      ks_length := fun _ e => by cases e
      cur_lt := fun _ e => by cases e
      cur_ctr := fun _ e => by cases e
      cur_init := fun _ e => by cases e
      ctr_iv := fun _ e => by cases e
      ks_valid := fun _ _ e => by cases e
      err_le := Nat.zero_le 4
      out_le := Nat.le_refl 0 }, rfl⟩

/-- The first three clauses of UndefinedReadsFault. -/
theorem test_hyp_faults :
    (testFive .identity 2).opnd = .uninit ∧ (testNoKey 0 0).key = .absent ∧ (testNoKey 0 0).cur = .val 0 ∧
    (testNoKey 0 0).ctr = .val [0, 0, 0, 5] ∧ (testNoKey 0 0).opnd = .val 3 ∧ (testNoKey 0 0).iv = .val [0, 0, 0, 5] ∧
    (testNoKey 0 0).initDone = true ∧ resetFailure (testNoKey 0 0).cfg (testNoKey 0 0).freeCount = none := by decide

/-- The last clause of UndefinedReadsFault: XRANGE of 3 bytes from `CUR = 0` and, where the third byte meets the block
boundary, from `CUR = 2`; XBLOCK from `CUR = 1`. -/
theorem test_hyp_streamFaults :
    streamCommand .xrange (testNoKey 0 3) 3 3 ∧ streamCommand .xrange (testNoKey 2 3) 3 3 ∧
    streamCommand .xblock (testNoKey 1 4) 4 (blockSizeResult 4) ∧
    (testNoKey 2 3).cur = .val 2 ∧ (testNoKey 2 3).ks = .val [0, 0, 0, 5] ∧ 3 ≤ (testNoKey 2 3).chan.input.length ∧
    3 ≤ (testNoKey 2 3).chan.outCap ∧ (testNoKey 2 3).cfg.blockSize - 2 < 3 ∧ (testNoKey 1 4).cfg.blockSize - 1 < 4 :=
  ⟨.inr ⟨rfl, rfl, rfl⟩, .inr ⟨rfl, rfl, rfl⟩, .inl ⟨rfl, rfl, rfl⟩, rfl, rfl, by decide, by decide, by decide, by decide⟩

/-- AccessTable, OutcomeCodes, FaultMarkerIsSticky, ErrorsLeaveResult, CollaboratorCallCounts: a command that completes,
one that raises LengthError and one that raises CollaboratorError. -/
theorem test_hyp_outcomes :
    (∃ t, exec (.xbyte 1) (testFive .identity 0) = .next t ∧ t.err = 0) ∧
    (∃ t, exec .xblock (testFive .identity 0) = .next t ∧ t.err = 2) ∧
    (∃ t, exec (.init false false) (testFive .identity 0) = .next t ∧ t.err = 1) ∧
    (∃ t, exec .reset (testFive (.failReset 9) 0) = .next t ∧ t.err = 3 ∧ t.faultMark = true ∧
      ∃ u, step t = .next u) ∧ (testFive .identity 0).Inv :=
  ⟨⟨_, rfl, rfl⟩, ⟨_, rfl, rfl⟩, ⟨_, rfl, rfl⟩, ⟨_, rfl, rfl, rfl, _, rfl⟩, testFive_inv .identity 0 (by decide) rfl⟩

/-- InitialisedStaysInitialised and StepKeepsInvariant: a step with a command to serve. -/
theorem test_hyp_step_next :
    (testFive .identity 2).Inv ∧ (testFive .identity 2).iv ≠ .uninit ∧ (testFive .identity 2).ctr ≠ .uninit ∧
    (testFive .identity 2).cur ≠ .uninit ∧
    (∀ rest, ((testFive .identity 2).withFetchWord 32 0).host ≠ .resetInput :: rest) ∧
    (∃ t, step ((testFive .identity 2).withFetchWord 32 0) = .next t ∧ t.cur = .val 0) ∧
    ((testFive .identity 2).withFetchWord 32 0).Inv := by
  have h := testFive_inv .identity 2 (by decide) rfl
  exact ⟨h, by decide, by decide, by decide, fun rest e => (by cases e), ⟨_, rfl, rfl⟩,
    ⟨h.blockSize_pos, h.iv_length, h.ctr_length, h.ks_length, h.cur_lt, h.cur_ctr, h.cur_init, h.ctr_iv, h.ks_valid,
      h.err_le, h.out_le⟩⟩

/-- PowerOnHasInvariant. -/
theorem test_hyp_powerOn : (testCfg 1 .mark).wellFormed = true := by decide

/-- EnginesAreIndependent: engine 1 of two steps. -/
theorem test_hyp_engines :
    (∃ sys', stepAt 1 [testFive .identity 0, (testFive .mark 2).withFetchWord 32 0] = .next sys' ∧ sys'.length = 2) ∧
    ∃ sys', stepAt 0 [testFive .identity 0, (testFive .mark 2).withFetchWord 32 0] = .next sys' :=
  ⟨⟨_, rfl, rfl⟩, _, rfl⟩

/-- LinesWriteTheirOperands, each clause at the end of its range. -/
theorem test_hyp_lines : (Line.skip (-2 ^ 63)).wellFormed 4 = true ∧ (Line.seek (2 ^ 64 - 1)).wellFormed 4 = true ∧
    (Line.xrange (2 ^ 64 - 1) [0, 255] none).wellFormed 4 = true ∧ (Line.xbyte 255).wellFormed 4 = true ∧
    (Line.init [0, 255] none).wellFormed 4 = true ∧ (Line.init [] (some 7)).wellFormed 4 = true ∧
    (Line.xblock [0, 255] (some 0)).wellFormed 4 = true ∧ (Line.xblock [] none).wellFormed 4 = true := by decide

/-- BusAccessesReachTheirRegister: distinct offsets, a register at each, and an offset that is none of them. -/
theorem test_hyp_bus :
    Config.default.regOffsets.wellFormed = true ∧ busRead Config.default 24 = some .readStatus ∧
    busWrite Config.default 0 0xFFFFFFFF00000007 Channels.none = some (.writeCmd 7 Channels.none) ∧
    busRead Config.default 4 = none := by decide

end Sys2Proof.Machine
end

section
/-! PROOF. The correspondence of buffers and numbers (00_scope.md R13): `be` and `bytesOf` undo each other. -/

namespace Sys2Proof.Machine

/-- R13's closed form: byte `i` weighs `256^(BS-1-i)`. -/
theorem be_eq_sum (a : List Byte) :
    be a = ((List.range a.length).map fun i => (a.getD i 0).toNat * 256 ^ (a.length - 1 - i)).sum := by
  induction a with
  | nil => rfl
  | cons b l ih =>
    have weight (i : Nat) : l.length - 1 - i = l.length - (i + 1) := by omega
    simp [be_cons, List.range_succ_eq_map, Function.comp_def, weight, ih]

/-- `be_lt` with the bound written `2^CW`, as R13 writes it. -/
theorem be_lt_two_pow (a : List Byte) : be a < 2 ^ (8 * a.length) :=
  (be_lt a).trans_eq (counterSpace_eq a.length).symm

@[simp] theorem be_digits (n v : Nat) : be (digits n v) = v % 256 ^ n := by
  induction n with
  | zero => simp [digits, Nat.mod_one]
  | succ n ih =>
    calc be (digits (n + 1) v) = v / 256 ^ n % 256 * 256 ^ n + v % 256 ^ n := by simp [digits, be_cons, ih]
      _ = v % 256 ^ (n + 1) := by rw [Nat.mod_pow_succ, Nat.mul_comm, Nat.add_comm]

/-- `be(bytes(v)) = v mod 2^CW` (R13), for a negative `v` too: `%` by a positive number is never negative. -/
theorem be_bytesOf (n : Nat) (v : Int) : (be (bytesOf n v) : Int) = v % (2 ^ (8 * n) : Int) := by
  have hpos : (0 : Int) < counterSpace n := by exact_mod_cast counterSpace_pos n
  have hnonneg := Int.emod_nonneg v hpos.ne'
  have hlt : (v % counterSpace n).toNat < counterSpace n := by have := Int.emod_lt_of_pos v hpos; omega
  rw [bytesOf, be_digits, ← counterSpace_eq, Nat.mod_eq_of_lt hlt, Int.toNat_of_nonneg hnonneg]
  simp [counterSpace]

/-- Among buffers of one length the value determines the bytes: the quotient and the remainder by the weight of the
head are the head and the value of the rest. -/
theorem be_injective {a c : List Byte} (hlen : a.length = c.length) (hbe : be a = be c) : a = c := by
  induction a generalizing c with
  | nil => exact (List.length_eq_zero_iff.mp hlen.symm).symm
  | cons x l ih =>
    cases c with
    | nil => simp at hlen
    | cons y m =>
      have hl : l.length = m.length := by simpa using hlen
      have head_and_rest (b : Byte) (k : List Byte) (hk : k.length = m.length) :
          be (b :: k) / 256 ^ m.length = b.toNat ∧ be (b :: k) % 256 ^ m.length = be k :=
        (Nat.div_mod_unique (by positivity)).mpr
          ⟨by rw [be_cons, hk, Nat.mul_comm, Nat.add_comm], hk ▸ be_lt k⟩
      obtain ⟨hx, hrest⟩ := head_and_rest x l hl
      obtain ⟨hy, hrest'⟩ := head_and_rest y m rfl
      have hhead : x = y := BitVec.eq_of_toNat_eq (by rw [← hx, hbe, hy])
      have htail : l = m := ih hl (by rw [← hrest, hbe, hrest'])
      rw [hhead, htail]

/-- `bytes(be(A)) = A` (R13): both have `BS` bytes and the same value. -/
theorem bytesOf_be (a : List Byte) : bytesOf a.length (be a) = a := by
  have hmod : (be a : Int) % 2 ^ (8 * a.length) = be a := by exact_mod_cast Nat.mod_eq_of_lt (be_lt_two_pow a)
  have hval : (be (bytesOf a.length (be a)) : Int) = be a := (be_bytesOf _ _).trans hmod
  exact be_injective (bytesOf_length _ _) (by exact_mod_cast hval)

/-- Settles O11, from the closed form of `be`, its value on `bytes(v)`, and its injectivity on buffers of one length. -/
theorem bytesAndValueAgree : Obligations.BytesAndValueAgree :=
  ⟨fun a => ⟨be_eq_sum a, be_lt_two_pow a⟩, fun n v => ⟨bytesOf_length n v, be_bytesOf n v⟩, bytesOf_be⟩

end Sys2Proof.Machine
end

section
/-! PROOF. What a part of a command, or a whole one, ensures of the states it can reach: the sequencing rules of the
pseudocode (00_scope.md R16 to R21), said once. -/

namespace Sys2Proof.Machine

/-- Running `r` ensures `Q` of the value and the state it completes with, and `E` of the state it raises an error in. A model
fault has no state (R203). -/
def Res.Ensures {α : Type} (r : Res α) (Q : α → State → Prop) (E : Err → State → Prop) : Prop :=
  match r with
  | .ok a s => Q a s
  | .raised e s => E e s
  | .stop _ => True

/-- `P` holds of every state that running `r` can reach. -/
abbrev Res.Keeps {α : Type} (r : Res α) (P : State → Prop) : Prop := r.Ensures (fun _ => P) (fun _ => P)

section
variable {α β : Type} {Q : α → State → Prop} {E : Err → State → Prop}

@[simp] theorem Res.ensures_ok (a : α) (s : State) : (Res.ok a s).Ensures Q E ↔ Q a s := Iff.rfl

@[simp] theorem Res.ensures_raised (e : Err) (s : State) : (Res.raised e s).Ensures Q E ↔ E e s := Iff.rfl

@[simp] theorem Res.ensures_stop (f : Fault) : (Res.stop f).Ensures Q E := trivial

theorem Res.Ensures.mono {r : Res α} {Q' : α → State → Prop} {E' : Err → State → Prop} (h : r.Ensures Q E)
    (hQ : ∀ a s, Q a s → Q' a s) (hE : ∀ e s, E e s → E' e s) : r.Ensures Q' E' := by
  cases r with
  | ok a s => exact hQ a s h
  | raised e s => exact hE e s h
  | stop f => trivial

/-- The rule of sequence: what the first part ensures when it completes is what the rest may assume (R19). -/
theorem Res.Ensures.bind {r : Res β} {k : β → State → Res α} {P : β → State → Prop} (h : r.Ensures P E)
    (hk : ∀ b s, P b s → (k b s).Ensures Q E) : (r.bind k).Ensures Q E := by
  cases r with
  | ok b s => exact hk b s h
  | raised e s => exact h
  | stop f => trivial

/-- The rule of reading a register: the rest runs only with a value it held (R21). -/
theorem readReg_ensures {el : Element} {r : Reg β} {k : β → Res α} (h : ∀ b, r = .val b → (k b).Ensures Q E) :
    (readReg el r k).Ensures Q E := by
  cases r with
  | uninit => trivial
  | val b => exact h b rfl

end

/-- The rule of a command's end (R190). -/
theorem finish_next_of_ensures {r : Res Unit} {Q : Unit → State → Prop} {E : Err → State → Prop} {t : State}
    (hr : r.Ensures Q E) (h : finish r = .next t) :
    (∃ u, Q () u ∧ t = u.setErr .ok) ∨ ∃ e u, E e u ∧ t = u.setErr e := by
  rcases finish_next h with ⟨u, rfl, rfl⟩ | ⟨e, u, rfl, rfl⟩
  · exact .inl ⟨u, hr, rfl⟩
  · exact .inr ⟨e, u, hr, rfl⟩

end Sys2Proof.Machine
end

section
/-! PROOF. What each part of a command and each command leaves unchanged (10_state.md R50). The model's `streamFrame` is the
frame of every command but INIT. -/

namespace Sys2Proof.Machine

theorem streamFrame_trans {s t u : State} (h : streamFrame s t) (h' : streamFrame t u) : streamFrame s u := by
  unfold streamFrame at *
  exact h'.trans (by rw [h])

/-- What belongs to the host or is fixed when the engine is built, which no command writes (R43, R50): the parameters,
`OPND`, `CMD`, the channels and the host's records. -/
def hostSideKept (s t : State) : Prop :=
  t.cfg = s.cfg ∧ t.opnd = s.opnd ∧ t.cmd = s.cmd ∧ t.chan = s.chan ∧ t.cmdIndex = s.cmdIndex ∧ t.host = s.host ∧
    t.hostData = s.hostData

theorem hostSideKept_of_streamFrame {s t : State} (h : streamFrame s t) : hostSideKept s t := by
  rw [h]; exact ⟨rfl, rfl, rfl, rfl, rfl, rfl, rfl⟩

/-- Only INIT writes `IV`, the key, and whether an INIT has completed (R50). -/
theorem initialisation_of_streamFrame {s t : State} (h : streamFrame s t) :
    t.iv = s.iv ∧ t.key = s.key ∧ t.initDone = s.initDone := by
  rw [h]; exact ⟨rfl, rfl, rfl⟩

/-- What every command but INIT keeps: the registers and records outside `streamFrame`, and that `CTR` and `CUR` stay
written (R50, R52). -/
structure State.CommandFrame (s t : State) : Prop where
  regs : streamFrame s t
  ctr_written : s.ctr ≠ .uninit → t.ctr ≠ .uninit
  cur_written : s.cur ≠ .uninit → t.cur ≠ .uninit

/-- What the loop of the stream commands keeps besides: `RESULT`, which a command writes after it (R44). -/
structure State.LoopFrame (s t : State) : Prop extends State.CommandFrame s t where
  result : t.result = s.result

/-- What KSLOAD, ADVANCE, SKIPADJ, RESET_BODY and BYTE_BODY keep besides: OUT (R64). -/
structure State.PartFrame (s t : State) : Prop extends State.LoopFrame s t where
  out : t.out = s.out

namespace State

theorem CommandFrame.trans {s t u : State} (h : s.CommandFrame t) (h' : t.CommandFrame u) : s.CommandFrame u :=
  ⟨streamFrame_trans h.regs h'.regs, h'.ctr_written ∘ h.ctr_written, h'.cur_written ∘ h.cur_written⟩

theorem LoopFrame.trans {s t u : State} (h : s.LoopFrame t) (h' : t.LoopFrame u) : s.LoopFrame u :=
  ⟨h.toCommandFrame.trans h'.toCommandFrame, h'.result.trans h.result⟩

theorem PartFrame.refl (s : State) : s.PartFrame s := ⟨⟨⟨rfl, id, id⟩, rfl⟩, rfl⟩

theorem PartFrame.trans {s t u : State} (h : s.PartFrame t) (h' : t.PartFrame u) : s.PartFrame u :=
  ⟨h.toLoopFrame.trans h'.toLoopFrame, h'.out.trans h.out⟩

theorem PartFrame.extend {α : Type} {s t : State} {r : Res α} (h : s.PartFrame t) (hr : r.Keeps t.PartFrame) :
    r.Keeps s.PartFrame :=
  hr.mono (fun _ _ => h.trans) (fun _ _ => h.trans)

theorem LoopFrame.extend {α : Type} {s t : State} {r : Res α} (h : s.LoopFrame t) (hr : r.Keeps t.LoopFrame) :
    r.Keeps s.LoopFrame :=
  hr.mono (fun _ _ => h.trans) (fun _ _ => h.trans)

theorem CommandFrame.setErr {s t : State} (e : Err) (h : s.CommandFrame t) : s.CommandFrame (t.setErr e) :=
  ⟨congrArg (State.setErr e) h.regs, h.ctr_written, h.cur_written⟩

theorem CommandFrame.setResult {s t : State} (w : OpWord) (h : s.CommandFrame t) : s.CommandFrame (t.setResult w) :=
  ⟨congrArg (State.setResult w) h.regs, h.ctr_written, h.cur_written⟩

theorem LoopFrame.deliver {s t : State} (b : Byte) (h : s.LoopFrame t) : s.LoopFrame (t.deliver b) :=
  ⟨⟨congrArg (State.deliver b) h.regs, h.ctr_written, h.cur_written⟩, h.result⟩

end State

/-! ### The parts of a command -/

theorem ksload_frame (s : State) : (ksload s).Keeps s.PartFrame := by
  rcases ksload_cases s with ⟨_, e⟩ | ⟨_, _, _, e⟩ | ⟨ctr, k, b, _, _, _, e⟩ | ⟨ctr, k, v, _, _, _, e⟩ <;> rw [e]
  · trivial
  · trivial
  · exact ⟨⟨⟨rfl, id, id⟩, rfl⟩, rfl⟩
  · exact ⟨⟨⟨rfl, id, id⟩, rfl⟩, rfl⟩

theorem xorByte_frame (b : Byte) (s : State) : (xorByte b s).Keeps s.PartFrame := by
  rcases xorByte_cases b s with ⟨_, _, _, _, _, _, e⟩ | ⟨f, e⟩ <;> rw [e]
  · exact .refl s
  · trivial

theorem advance_frame (s : State) : (advance s).Keeps s.PartFrame := by
  rcases advance_cases s with ⟨cur, _, _, e⟩ | ⟨cur, ctr, _, _, _, e⟩ | ⟨f, e⟩ <;> rw [e]
  · exact ⟨⟨⟨rfl, id, by simp⟩, rfl⟩, rfl⟩
  · exact ⟨⟨⟨rfl, by simp, by simp⟩, rfl⟩, rfl⟩
  · trivial

theorem skipAdj_frame (n : Int) (s : State) : (skipAdj n s).Keeps s.PartFrame := by
  rcases skipAdj_cases n s with ⟨ctr, cur, _, _, e⟩ | ⟨f, e⟩ <;> rw [e]
  · exact ⟨⟨⟨rfl, by simp, by simp⟩, rfl⟩, rfl⟩
  · trivial

theorem resetBody_frame (s : State) : (resetBody s).Keeps s.PartFrame := by
  rcases resetBody_cases s with ⟨_, e⟩ | ⟨iv, _, _, e⟩ | ⟨iv, v, _, _, e⟩ <;> rw [e]
  · trivial
  · exact ⟨⟨⟨rfl, by simp, by simp⟩, rfl⟩, rfl⟩
  · exact ⟨⟨⟨rfl, by simp, id⟩, rfl⟩, rfl⟩

theorem resetAfterInit_frame (s : State) : (resetAfterInit s).Keeps s.PartFrame := by
  rcases resetAfterInit_cases s with ⟨_, e⟩ | ⟨_, _, _, e⟩ | ⟨_, e⟩ <;> rw [e]
  · trivial
  · trivial
  · exact resetBody_frame s

theorem byteBody_frame (b : Byte) (s : State) : (byteBody b s).Keeps s.PartFrame := by
  refine readReg_ensures fun cur _ => ?_
  have hload : (if cur = 0 then ksload s else .ok () s).Keeps s.PartFrame := by
    split
    · exact ksload_frame s
    · exact .refl s
  refine hload.bind fun _ s1 h1 => (h1.extend (xorByte_frame b s1)).bind fun o s2 h2 => ?_
  exact (h2.extend (advance_frame s2)).bind fun _ s3 h3 => h3

theorem transformBytes_frame (l : List Byte) (s : State) : (transformBytes l s).Keeps s.LoopFrame := by
  induction l generalizing s with
  | nil => exact (State.PartFrame.refl s).toLoopFrame
  | cons b l ih =>
    have hbody : (byteBody b s).Keeps s.LoopFrame :=
      (byteBody_frame b s).mono (fun _ _ h => h.toLoopFrame) (fun _ _ h => h.toLoopFrame)
    exact hbody.bind fun o s1 h1 => (h1.deliver o).extend (ih _)

/-! ### The commands -/

/-- How a command other than INIT ends: what it keeps, and `RESULT` as it was if it raised an error (R44). -/
structure State.EndFrame (s t : State) : Prop extends State.CommandFrame s t where
  result_of_err : t.err ≠ 0 → t.result = s.result

/-- The end of a command whose parts keep a frame, and which writes `RESULT` only when they complete. -/
theorem finish_endFrame {r : Res Unit} {s t : State}
    (hr : r.Ensures (fun _ => s.CommandFrame) (fun _ => s.LoopFrame)) (h : finish r = .next t) : s.EndFrame t := by
  rcases finish_next_of_ensures hr h with ⟨u, hu, rfl⟩ | ⟨e, u, hu, rfl⟩
  · exact ⟨hu.setErr .ok, fun hne => absurd rfl hne⟩
  · exact ⟨hu.toCommandFrame.setErr e, fun _ => hu.result⟩

/-- The same of a command that delivers no byte. -/
theorem finish_endFrame_out {r : Res Unit} {s t : State}
    (hr : r.Ensures (fun _ u => s.CommandFrame u ∧ u.out = s.out) (fun _ => s.PartFrame)) (h : finish r = .next t) :
    s.EndFrame t ∧ t.out = s.out := by
  refine ⟨finish_endFrame (hr.mono (fun _ _ hu => hu.1) (fun _ _ hu => hu.toLoopFrame)) h, ?_⟩
  rcases finish_next_of_ensures hr h with ⟨u, hu, rfl⟩ | ⟨e, u, hu, rfl⟩
  · exact hu.2
  · exact hu.out

theorem State.PartFrame.setResult {s t : State} (w : OpWord) (h : s.PartFrame t) :
    s.CommandFrame (t.setResult w) ∧ (t.setResult w).out = s.out :=
  ⟨h.toCommandFrame.setResult w, h.out⟩

theorem execReset_frame {s t : State} (h : execReset s = .next t) : s.EndFrame t ∧ t.out = s.out :=
  finish_endFrame_out ((resetAfterInit_frame s).mono (fun _ _ hu => ⟨hu.toCommandFrame, hu.out⟩) (fun _ _ hu => hu)) h

theorem execXbyte_frame {data : Byte} {s t : State} (h : execXbyte data s = .next t) : s.EndFrame t ∧ t.out = s.out :=
  finish_endFrame_out ((byteBody_frame data s).bind fun o _ h1 =>
    (Res.ensures_ok () _).mpr (h1.setResult (byteResult o))) h

theorem execSkip_frame {s t : State} (h : execSkip s = .next t) : s.EndFrame t ∧ t.out = s.out := by
  refine finish_endFrame_out (readReg_ensures fun w _ => ?_) h
  refine (skipAdj_frame (skipOffset w) s).bind fun _ s1 h1 => ?_
  exact (h1.extend (ksload_frame s1)).bind fun _ s2 h2 => h2.setResult w

theorem execSeek_frame {s t : State} (h : execSeek s = .next t) : s.EndFrame t ∧ t.out = s.out := by
  refine finish_endFrame_out (readReg_ensures fun w _ => ?_) h
  refine (resetAfterInit_frame s).bind fun _ s1 h1 => ?_
  refine (h1.extend (skipAdj_frame (seekPosition w) s1)).bind fun _ s2 h2 => ?_
  exact (h2.extend (ksload_frame s2)).bind fun _ s3 h3 => h3.setResult w

/-- GETPOS writes `RESULT` and `STATUS.ERR` and nothing else (R178). -/
theorem execGetpos_next {s t : State} (h : execGetpos s = .next t) : ∃ w, t = (s.setResult w).setErr .ok := by
  have hr : ∀ ctr iv cur, (Res.ok () (s.setResult (positionResult (window s.cfg.posWindowBytes (diff ctr iv))
      s.cfg.blockSize cur))).Ensures (fun _ u => ∃ w, u = s.setResult w) (fun _ _ => False) :=
    fun ctr iv cur => ⟨_, rfl⟩
  rcases finish_next_of_ensures (readReg_ensures fun ctr _ => readReg_ensures fun iv _ => readReg_ensures fun cur _ =>
    hr ctr iv cur) h with ⟨_, ⟨w, rfl⟩, rfl⟩ | ⟨_, _, hf, _⟩
  · exact ⟨w, rfl⟩
  · exact hf.elim

theorem execGetpos_frame {s t : State} (h : execGetpos s = .next t) : s.EndFrame t ∧ t.out = s.out := by
  obtain ⟨w, rfl⟩ := execGetpos_next h
  obtain ⟨hs, hout⟩ := (State.PartFrame.refl s).setResult w
  exact ⟨⟨hs.setErr .ok, fun hne => absurd rfl hne⟩, hout⟩

theorem transformStream_frame (n : Nat) (w : OpWord) (s : State) :
    (transformStream n w s).Ensures (fun _ => s.CommandFrame) (fun _ => s.LoopFrame) := by
  rcases transformStream_cases n w s with ⟨f, e⟩ | ⟨_, _, _, _, _, e⟩ | ⟨_, _, _, _, _, _, e⟩ <;> rw [e]
  · trivial
  · exact (State.PartFrame.refl s).toLoopFrame
  · exact (transformBytes_frame _ s).bind fun _ s1 h1 => h1.toCommandFrame.setResult w

theorem execXblock_frame {s t : State} (h : execXblock s = .next t) : s.EndFrame t :=
  finish_endFrame (transformStream_frame _ _ s) h

theorem execXrange_frame {s t : State} (h : execXrange s = .next t) : s.EndFrame t :=
  finish_endFrame (readReg_ensures fun w _ => transformStream_frame _ w s) h

/-- The frame of every command but INIT, and which of them deliver bytes (R50). -/
theorem exec_frame {i : Instr} {s t : State} (hi : ∀ k v, i ≠ .init k v) (h : exec i s = .next t) :
    s.EndFrame t ∧ (i ≠ .xblock → i ≠ .xrange → t.out = s.out) := by
  cases i with
  | init k v => exact absurd rfl (hi k v)
  | reset => exact (execReset_frame h).imp_right fun hout _ _ => hout
  | xbyte data => exact (execXbyte_frame h).imp_right fun hout _ _ => hout
  | xblock => exact ⟨execXblock_frame h, fun hne => absurd rfl hne⟩
  | xrange => exact ⟨execXrange_frame h, fun _ hne => absurd rfl hne⟩
  | skip => exact (execSkip_frame h).imp_right fun hout _ _ => hout
  | seek => exact (execSeek_frame h).imp_right fun hout _ _ => hout
  | getpos => exact (execGetpos_frame h).imp_right fun hout _ _ => hout

/-! ### INIT, and RESET as a part of it -/

/-- `t` is `s` but for the registers that INIT may write (R50): `IV`, `CTR`, `CUR`, `STATUS.ERR`, and what stands at the
collaborator port with its key. -/
def initRegsFrame (s t : State) : Prop :=
  t = { s with
    iv := t.iv, ctr := t.ctr, cur := t.cur, err := t.err, key := t.key, initDone := t.initDone
    faultMark := t.faultMark, collabErr := t.collabErr
    buffering := t.buffering, calls := t.calls, freeCount := t.freeCount }

theorem hostSideKept_of_initRegsFrame {s t : State} (h : initRegsFrame s t) : hostSideKept s t := by
  rw [h]; exact ⟨rfl, rfl, rfl, rfl, rfl, rfl, rfl⟩

theorem outputs_of_initRegsFrame {s t : State} (h : initRegsFrame s t) :
    t.ks = s.ks ∧ t.result = s.result ∧ t.out = s.out := by
  rw [h]; exact ⟨rfl, rfl, rfl⟩

/-- `IV`, `CTR` and `CUR` stay written, and an initialised engine stays initialised (R52). -/
structure State.StaysInitialised (s t : State) : Prop where
  iv_written : s.iv ≠ .uninit → t.iv ≠ .uninit
  ctr_written : s.ctr ≠ .uninit → t.ctr ≠ .uninit
  cur_written : s.cur ≠ .uninit → t.cur ≠ .uninit
  initDone_stays : s.initDone = true → t.initDone = true

theorem State.StaysInitialised.trans {s t u : State} (h : s.StaysInitialised t) (h' : t.StaysInitialised u) :
    s.StaysInitialised u :=
  ⟨h'.iv_written ∘ h.iv_written, h'.ctr_written ∘ h.ctr_written, h'.cur_written ∘ h.cur_written,
    h'.initDone_stays ∘ h.initDone_stays⟩

/-- What INIT keeps: the registers outside `initRegsFrame`, and what R52 says stays. -/
structure State.InitFrame (s t : State) : Prop extends State.StaysInitialised s t where
  regs : initRegsFrame s t

theorem initRegsFrame_trans {s t u : State} (h : initRegsFrame s t) (h' : initRegsFrame t u) : initRegsFrame s u := by
  unfold initRegsFrame at *
  exact h'.trans (by rw [h])

theorem State.InitFrame.trans {s t u : State} (h : s.InitFrame t) (h' : t.InitFrame u) : s.InitFrame u :=
  ⟨h.toStaysInitialised.trans h'.toStaysInitialised, initRegsFrame_trans h.regs h'.regs⟩

theorem State.InitFrame.extend {α : Type} {s t : State} {r : Res α} (h : s.InitFrame t) (hr : r.Keeps t.InitFrame) :
    r.Keeps s.InitFrame :=
  hr.mono (fun _ _ => h.trans) (fun _ _ => h.trans)

theorem State.InitFrame.setErr {s t : State} (e : Err) (h : s.InitFrame t) : s.InitFrame (t.setErr e) :=
  ⟨{ h.toStaysInitialised with }, congrArg (State.setErr e) h.regs⟩

theorem callInit_initFrame (k : KeyToken) (s : State) : (callInit k s).Keeps s.InitFrame := by
  rcases callInit_cases k s with ⟨_, e⟩ | ⟨v, _, e⟩ <;> rw [e]
  · exact ⟨⟨id, id, id, id⟩, rfl⟩
  · exact ⟨⟨id, id, id, id⟩, rfl⟩

theorem resetBody_initFrame (s : State) : (resetBody s).Keeps s.InitFrame := by
  rcases resetBody_cases s with ⟨_, e⟩ | ⟨iv, _, _, e⟩ | ⟨iv, v, _, _, e⟩ <;> rw [e]
  · trivial
  · exact ⟨⟨id, by simp, by simp, id⟩, rfl⟩
  · exact ⟨⟨id, by simp, id, id⟩, rfl⟩

theorem finish_initFrame {r : Res Unit} {s t : State} (hr : r.Keeps s.InitFrame) (h : finish r = .next t) :
    s.InitFrame t := by
  rcases finish_next_of_ensures hr h with ⟨u, hu, rfl⟩ | ⟨e, u, hu, rfl⟩
  · exact hu.setErr .ok
  · exact hu.setErr e

theorem execReset_initFrame {s t : State} (h : execReset s = .next t) : s.InitFrame t := by
  refine finish_initFrame ?_ h
  rcases resetAfterInit_cases s with ⟨_, e⟩ | ⟨_, _, _, e⟩ | ⟨_, e⟩ <;> rw [e]
  · trivial
  · trivial
  · exact resetBody_initFrame s

/-- INIT after its checks (R130, R135): IV copy, key forward, RESET body. -/
def initBody (k : Bool) (s : State) : Res Unit :=
  (if k then callInit s.chan.key (s.setIv s.chan.iv) else .ok () (s.setIv s.chan.iv)).bind fun _ s2 =>
    (resetBody s2).bind fun _ s3 => .ok () s3.setInitDone

/-- INIT raises ConfigurationError before any effect (R133), or runs its body. -/
theorem execInit_cases (k v : Bool) (s : State) :
    (badIv v s.chan s.cfg.blockSize = true ∧ execInit k v s = .next (s.setErr .config)) ∨
    (s.chan.iv.length = s.cfg.blockSize ∧ execInit k v s = finish (initBody k s)) := by
  unfold execInit
  cases hbad : badIv v s.chan s.cfg.blockSize with
  | true => exact .inl ⟨rfl, rfl⟩
  | false => exact .inr ⟨by simpa using (Bool.or_eq_false_iff.mp hbad).2, rfl⟩

theorem initBody_frame (k : Bool) (s : State) : (initBody k s).Keeps s.InitFrame := by
  have hiv : s.InitFrame (s.setIv s.chan.iv) := ⟨⟨by simp, id, id, id⟩, rfl⟩
  have hkey :
      (if k then callInit s.chan.key (s.setIv s.chan.iv) else .ok () (s.setIv s.chan.iv)).Keeps s.InitFrame := by
    split
    · exact hiv.extend (callInit_initFrame _ _)
    · exact hiv
  refine hkey.bind fun _ s2 h2 => (h2.extend (resetBody_initFrame s2)).bind fun _ s3 h3 => ?_
  exact (Res.ensures_ok () _).mpr (h3.trans ⟨⟨id, id, id, fun _ => rfl⟩, rfl⟩)

theorem execInit_frame {k v : Bool} {s t : State} (h : execInit k v s = .next t) : s.InitFrame t := by
  rcases execInit_cases k v s with ⟨_, e⟩ | ⟨_, e⟩ <;> rw [e] at h
  · cases h; exact ⟨⟨id, id, id, id⟩, rfl⟩
  · exact finish_initFrame (initBody_frame k s) h

/-- Only INIT with `K = 1` forwards a key (R130). -/
theorem execInit_false_key {v : Bool} {s t : State} (h : execInit false v s = .next t) : t.key = s.key := by
  rcases execInit_cases false v s with ⟨_, e⟩ | ⟨_, e⟩ <;> rw [e] at h
  · cases h; rfl
  · have hbody : (initBody false s).Keeps (fun u => u.key = s.key) :=
      ((resetBody_frame (s.setIv s.chan.iv)).mono (fun _ _ hu => (initialisation_of_streamFrame hu.regs).2.1)
        (fun _ _ hu => (initialisation_of_streamFrame hu.regs).2.1)).bind fun _ _ h3 => (Res.ensures_ok () _).mpr h3
    rcases finish_next_of_ensures hbody h with ⟨u, hu, rfl⟩ | ⟨e, u, hu, rfl⟩
    · exact hu
    · exact hu

/-! ### The statements -/

theorem exec_hostSideKept {i : Instr} {s t : State} (h : exec i s = .next t) : hostSideKept s t := by
  by_cases hi : ∃ k v, i = .init k v
  · obtain ⟨k, v, rfl⟩ := hi
    exact hostSideKept_of_initRegsFrame (execInit_frame h).regs
  · exact hostSideKept_of_streamFrame (exec_frame (by simpa using hi) h).1.regs

theorem exec_initFrame {i : Instr} {s t : State} (hi : i = .reset ∨ ∃ k v, i = .init k v)
    (h : exec i s = .next t) : s.InitFrame t := by
  rcases hi with rfl | ⟨k, v, rfl⟩
  · exact execReset_initFrame h
  · exact execInit_frame h

theorem exec_init_or_reset_outputs {i : Instr} {s t : State} (hi : i = .reset ∨ ∃ k v, i = .init k v)
    (h : exec i s = .next t) : t.ks = s.ks ∧ t.result = s.result ∧ t.out = s.out :=
  outputs_of_initRegsFrame (exec_initFrame hi h).regs

theorem exec_out {i : Instr} {s t : State} (hb : i ≠ .xblock) (hr : i ≠ .xrange) (h : exec i s = .next t) :
    t.out = s.out := by
  by_cases hi : ∃ k v, i = .init k v
  · obtain ⟨_, _, hout⟩ := exec_init_or_reset_outputs (.inr hi) h
    exact hout
  · exact (exec_frame (by simpa using hi) h).2 hb hr

/-- Settles O47, from the frames of the commands. -/
theorem accessTable : Obligations.AccessTable := by
  intro i s t h
  refine ⟨exec_hostSideKept h, fun hi => initialisation_of_streamFrame (exec_frame hi h).1.regs, ?_, ?_, ?_, ?_,
    fun hb hr => exec_out hb hr h⟩
  · rintro v rfl
    exact execInit_false_key h
  · rintro rfl
    obtain ⟨w, rfl⟩ := execGetpos_next h
    exact ⟨rfl, rfl, rfl⟩
  · rintro (hi | rfl | hi)
    · exact (exec_init_or_reset_outputs (.inl hi) h).1
    · obtain ⟨w, rfl⟩ := execGetpos_next h
      rfl
    · exact (exec_init_or_reset_outputs (.inr hi) h).1
  · intro hi
    exact (exec_init_or_reset_outputs hi h).2.1

/-- Settles O50: INIT writes no `RESULT`, and every other command writes it only after its last part completes. -/
theorem errorsLeaveResult : Obligations.ErrorsLeaveResult := by
  intro i s t h herr
  by_cases hi : ∃ k v, i = .init k v
  · exact (exec_init_or_reset_outputs (.inr hi) h).2.1
  · exact (exec_frame (by simpa using hi) h).1.result_of_err herr

end Sys2Proof.Machine
end

section
/-! PROOF. The step and the host's accesses (10_state.md R42 to R45, R49, R52). -/

namespace Sys2Proof.Machine

/-! ### What a step does, and what it can do -/

theorem step_cons {s : State} {a : HostAction} {rest : List HostAction} (hs : s.host = a :: rest) :
    step s = serve a (s.withHost rest) := by
  simp [step, serveNext, hs]

theorem runWord_command {w : CmdWord} {i : Instr} (s : State) (hw : decode w = .command i) : runWord w s = exec i s := by
  simp [runWord, hw]

theorem runWord_illegal {w : CmdWord} {why : IllegalReason} (s : State) (hw : decode w = .illegal why) :
    runWord w s = .next (s.setErr .illegal) := by
  simp [runWord, hw, takeIllegal]

/-- The ways in which serving a host access gives a next state (R69). -/
inductive ServeNext (s : State) : HostAction → State → Prop
  /-- A write to `CMD` of a command's word (R42). -/
  | command {w : CmdWord} {ch : Channels} {i : Instr} {t : State} (hw : decode w = .command i)
      (h : exec i (s.accept w ch) = .next t) : ServeNext s (.writeCmd w ch) t
  /-- A write to `CMD` of an ILLEGAL word (R90, R199). -/
  | illegal {w : CmdWord} {ch : Channels} : ServeNext s (.writeCmd w ch) ((s.accept w ch).setErr .illegal)
  /-- A write to `OPND` (R43). -/
  | operand (v : OpWord) : ServeNext s (.writeOpnd v) (s.setOpnd v)
  /-- A write to `RESULT` or `STATUS` (R44, R45). -/
  | ignored {a : HostAction} : ServeNext s a s
  /-- A read (R69). -/
  | read {a : HostAction} (r : Reg OpWord) : ServeNext s a (s.setHostData r)
  /-- A pulse on the reset input (R216). -/
  | pulse : ServeNext s .resetInput (hardwareReset s)

theorem serve_next {a : HostAction} {s t : State} (h : serve a s = .next t) : ServeNext s a t := by
  cases a with
  | writeCmd w ch =>
    cases hw : decode w with
    | command i => exact .command hw ((runWord_command _ hw).symm.trans h)
    | illegal why =>
      cases (runWord_illegal (s.accept w ch) hw).symm.trans h
      exact .illegal
  | writeOpnd v => cases h; exact .operand v
  | writeResult v => cases h; exact .ignored
  | writeStatus v => cases h; exact .ignored
  | readCmd => cases h
  | readOpnd => cases h; exact .read _
  | readResult => cases h; exact .read _
  | readStatus => cases h; exact .read _
  | resetInput =>
    by_cases hr : s.cfg.hasResetInput = true
    · obtain rfl : hardwareReset s = t := by simpa [serve, hr] using h
      exact .pulse
    · simp [serve, hr] at h

/-- A step serves the host's next access, or waits (log 12). -/
theorem step_next {s t : State} (h : step s = .next t) :
    t = s ∨ ∃ a rest, s.host = a :: rest ∧ ServeNext (s.withHost rest) a t := by
  cases hs : s.host with
  | nil => exact .inl (by simpa [step, serveNext, hs] using h.symm)
  | cons a rest => exact .inr ⟨a, rest, rfl, serve_next ((step_cons hs).symm.trans h)⟩

/-! ### The statements -/

/-- Settles O6: `State.accept` names the fields that the write to `CMD` sets. -/
theorem stepRunsDecodedCommand : Obligations.StepRunsDecodedCommand := by
  intro s w ch rest i hs hw
  exact (step_cons hs).trans (runWord_command _ hw)

/-- A read of `STATUS` gives the code, zero-extended (R45; log 27). -/
theorem readWord_statusWord (s : State) : readWord (statusWord s) = BitVec.ofNat 64 s.err.toNat := by
  have hval : (statusWord s).toNat = s.err.toNat := (BitVec.toNat_append 0 s.err).trans (by simp)
  exact BitVec.eq_of_toNat_eq (by simp [readWord, hval])

/-- Settles O8, one access at a time. -/
theorem hostRegisterAccesses : Obligations.HostRegisterAccesses := by
  intro s rest
  refine ⟨fun v hs => step_cons hs, fun hs => step_cons hs, fun hs => step_cons hs, fun hs => ?_, fun v hs => step_cons hs,
    fun v hs => step_cons hs, fun hs => step_cons hs⟩
  rw [step_cons hs, ← readWord_statusWord]
  rfl

/-- At power-on `STATUS` reads as zero (R45, R49). -/
theorem statusWord_powerOn (c : Config) : statusWord (State.powerOn c) = 0 := by
  simp [statusWord, State.powerOn]

/-- Settles O9: each value is the one `State.powerOn` names. -/
theorem powerOnValues : Obligations.PowerOnValues :=
  fun c => ⟨rfl, rfl, rfl, rfl, rfl, rfl, rfl, statusWord_powerOn c, rfl, rfl, rfl⟩

theorem exec_staysInitialised {i : Instr} {s t : State} (h : exec i s = .next t) : s.StaysInitialised t := by
  by_cases hi : ∃ k v, i = .init k v
  · exact (exec_initFrame (.inr hi) h).toStaysInitialised
  · have hf := (exec_frame (by simpa using hi) h).1
    obtain ⟨hiv, -, hdone⟩ := initialisation_of_streamFrame hf.regs
    exact ⟨fun hne => hiv ▸ hne, hf.ctr_written, hf.cur_written, fun hd => hdone.trans hd⟩

/-- The commands keep it, and of the other accesses only the reset pulse writes one of these elements (R216). -/
theorem ServeNext.staysInitialised {s t : State} {a : HostAction} (ha : a ≠ .resetInput) (h : ServeNext s a t) :
    s.StaysInitialised t := by
  cases h with
  | command hw h =>
    have hexec := exec_staysInitialised h
    exact { hexec with }
  | illegal => exact ⟨id, id, id, id⟩
  | operand v => exact ⟨id, id, id, id⟩
  | ignored => exact ⟨id, id, id, id⟩
  | read r => exact ⟨id, id, id, id⟩
  | pulse => exact absurd rfl ha

/-- Settles O52: a step serves one host access, or waits. -/
theorem initialisedStaysInitialised : Obligations.InitialisedStaysInitialised := by
  intro s t hpulse h
  rcases step_next h with rfl | ⟨a, rest, hs, h⟩
  · exact ⟨id, id, id, id⟩
  · obtain ⟨hiv, hctr, hcur, hdone⟩ := h.staysInitialised fun ha => hpulse rest (ha ▸ hs)
    exact ⟨hiv, hctr, hcur, hdone⟩

end Sys2Proof.Machine
end

section
/-! PROOF. The invariant of 10_state.md section 3: what of it each part of a command keeps, and that every step keeps the
whole. -/

namespace Sys2Proof.Machine

/-! ### The invariant in two layers

SKIPADJ and RESET_BODY move `CTR` and `CUR` away from the block in `KS`, and a later statement of the same command makes
good for it: inside a command R38 can fail, while what R37 says of each register holds throughout. -/

/-- The part of `State.Inv` about single registers (R37), which holds inside a command too. -/
structure State.Shape (s : State) : Prop where
  blockSize_pos : 1 ≤ s.cfg.blockSize
  iv_length : ∀ a, s.iv = .val a → a.length = s.cfg.blockSize
  ctr_length : ∀ a, s.ctr = .val a → a.length = s.cfg.blockSize
  ks_length : ∀ a, s.ks = .val a → a.length = s.cfg.blockSize
  cur_lt : ∀ c, s.cur = .val c → c < s.cfg.blockSize
  cur_ctr : ∀ c, s.cur = .val c → ∃ a, s.ctr = .val a
  cur_init : ∀ c, s.cur = .val c → s.initDone = true
  ctr_iv : ∀ a, s.ctr = .val a → ∃ b, s.iv = .val b

/-- `KS` holds the keystream block of `CTR` (R38). -/
def State.Loaded (s : State) : Prop :=
  ∃ k a b, s.key = .token k ∧ s.ctr = .val a ∧ s.ks = .val b ∧ eKey s.cfg k a = .block b

/-- What holds of the engine's registers at a command boundary (R37, R38). -/
structure State.Sound (s : State) : Prop extends State.Shape s where
  ks_valid : s.faultMark = false → ∀ c, s.cur = .val c → 0 < c → s.Loaded

theorem inv_iff {s : State} :
    s.Inv ↔ s.Sound ∧ s.err.toNat ≤ 4 ∧ s.out.length ≤ s.chan.outCap where
  mp h := ⟨{ h with }, h.err_le, h.out_le⟩
  mpr := fun ⟨h, herr, hout⟩ => { h with err_le := herr, out_le := hout }

namespace State

/-! One rule per update that writes a register of `State.Shape`; any other update leaves its facts as they are. -/

theorem Shape.setIv {s : State} {a : List Byte} (h : s.Shape) (ha : a.length = s.cfg.blockSize) : (s.setIv a).Shape :=
  { h with
    iv_length := by rintro _ ⟨rfl⟩; exact ha
    ctr_iv := fun _ _ => ⟨a, rfl⟩ }

theorem Shape.setCtr {s : State} {a b : List Byte} (h : s.Shape) (ha : a.length = s.cfg.blockSize)
    (hiv : s.iv = .val b) : (s.setCtr a).Shape :=
  { h with
    ctr_length := by rintro _ ⟨rfl⟩; exact ha
    cur_ctr := fun _ _ => ⟨a, rfl⟩
    ctr_iv := fun _ _ => ⟨b, hiv⟩ }

theorem Shape.setKs {s : State} {a : List Byte} (h : s.Shape) (ha : a.length = s.cfg.blockSize) : (s.setKs a).Shape :=
  { h with ks_length := by rintro _ ⟨rfl⟩; exact ha }

theorem Shape.setCur {s : State} {c : Nat} {a : List Byte} (h : s.Shape) (hc : c < s.cfg.blockSize)
    (hctr : s.ctr = .val a) (hdone : s.initDone = true) : (s.setCur c).Shape :=
  { h with
    cur_lt := by rintro _ ⟨rfl⟩; exact hc
    cur_ctr := fun _ _ => ⟨a, hctr⟩
    cur_init := fun _ _ => hdone }

theorem Shape.setInitDone {s : State} (h : s.Shape) : s.setInitDone.Shape :=
  { h with cur_init := fun _ _ => rfl }

theorem Shape.loseKs {s : State} (h : s.Shape) : s.loseKs.Shape :=
  { h with ks_length := by rintro _ ⟨rfl⟩; exact freeBlock_length _ _ }

/-- R38 holds at a boundary where the block is loaded, where no keystream byte is pending, and after a fault. -/
theorem Shape.sound_of_loaded {s : State} (h : s.Shape) (hl : s.Loaded) : s.Sound :=
  ⟨h, fun _ _ _ _ => hl⟩

theorem Shape.sound_of_cur_zero {s : State} (h : s.Shape) (hc : s.cur = .val 0) : s.Sound := by
  refine ⟨h, fun _ c hc' hpos => ?_⟩
  cases hc.symm.trans hc'
  exact absurd hpos (Nat.lt_irrefl 0)

theorem Shape.markCollab {s : State} (v : CollabErrVal) (h : s.Shape) : (s.markCollab v).Sound :=
  ⟨{ h with }, fun hf => by cases hf⟩

end State

/-! ### The parts of a command -/

theorem skipTarget_cur_lt (c : Config) (n : Int) (ctr : List Byte) (cur : Nat) (h : 1 ≤ c.blockSize) :
    (skipTarget c n ctr cur).2 < c.blockSize := by
  unfold skipTarget
  split
  · exact skipForward_cur_lt _ _ _ _ h
  · unfold skipBackward skipBackwardBy
    dsimp only
    split
    · exact h
    · dsimp only; omega

theorem ksload_sound {s : State} (h : s.Shape) :
    (ksload s).Ensures (fun _ t => t.Shape ∧ t.Loaded) (fun _ t => t.Sound) := by
  rcases ksload_cases s with ⟨_, e⟩ | ⟨_, _, _, e⟩ | ⟨ctr, k, b, hctr, hkey, hb, e⟩ | ⟨ctr, k, v, _, _, _, e⟩ <;> rw [e]
  · trivial
  · trivial
  · have hnote : (s.noteCall (.process ctr)).Shape := { h with }
    exact ⟨hnote.setKs (eKey_length (h.ctr_length ctr hctr) hb), k, ctr, b, hkey, hctr, rfl, hb⟩
  · have hnote : (s.noteCall (.process ctr)).Shape := { h with }
    exact hnote.loseKs.markCollab v

theorem xorByte_unchanged (b : Byte) (s : State) : (xorByte b s).Ensures (fun _ t => t = s) (fun _ _ => False) := by
  rcases xorByte_cases b s with ⟨_, _, _, _, _, _, e⟩ | ⟨f, e⟩ <;> rw [e]
  · rfl
  · trivial

/-- ADVANCE to a cursor above 0 leaves `CTR` and `KS`, so it needs the block loaded before (R120, R38). -/
theorem advance_sound {s : State} (h : s.Shape) (hl : s.faultMark = false → s.Loaded) :
    (advance s).Keeps State.Sound := by
  rcases advance_cases s with ⟨cur, hcur, hne, e⟩ | ⟨cur, ctr, hcur, hctr, hlast, e⟩ | ⟨f, e⟩ <;> rw [e]
  · obtain ⟨ctr, hctr⟩ := h.cur_ctr cur hcur
    have hlt : cur + 1 < s.cfg.blockSize := by have := h.cur_lt cur hcur; omega
    exact ⟨h.setCur hlt hctr (h.cur_init cur hcur), fun hf _ _ _ => hl hf⟩
  · obtain ⟨iv, hiv⟩ := h.ctr_iv ctr hctr
    have hzero : (s.setCur 0).Shape := h.setCur h.blockSize_pos hctr (h.cur_init cur hcur)
    exact (hzero.setCtr ((inc_length ctr).trans (h.ctr_length ctr hctr)) hiv).sound_of_cur_zero rfl
  · trivial

theorem skipAdj_shape (n : Int) {s : State} (h : s.Shape) :
    (skipAdj n s).Ensures (fun _ t => t.Shape) (fun _ _ => False) := by
  rcases skipAdj_cases n s with ⟨ctr, cur, hctr, hcur, e⟩ | ⟨f, e⟩ <;> rw [e]
  · obtain ⟨iv, hiv⟩ := h.ctr_iv ctr hctr
    have hmoved : (s.setCtr (skipTarget s.cfg n ctr cur).1).Shape :=
      h.setCtr ((skipTarget_length _ _ _ _).trans (h.ctr_length ctr hctr)) hiv
    exact hmoved.setCur (skipTarget_cur_lt _ _ _ _ h.blockSize_pos) rfl (h.cur_init cur hcur)
  · trivial

/-- RESET_BODY from any engine, initialised or not: INIT completes only after it, so the state to speak of is the one with
the INIT counted as complete (R130, R136; log 24). -/
theorem resetBody_sound {s : State} (h : s.Shape) :
    (resetBody s).Ensures (fun _ t => t.setInitDone.Sound) (fun _ t => t.Sound) := by
  rcases resetBody_cases s with ⟨_, e⟩ | ⟨iv, hiv, _, e⟩ | ⟨iv, v, hiv, _, e⟩ <;> rw [e]
  · trivial
  · have hctr : (s.setCtr iv).Shape := h.setCtr (h.iv_length iv hiv) hiv
    have hcall : (((s.setCtr iv).noteCall .reset).clearBuffering.setInitDone).Shape := { hctr.setInitDone with }
    exact (hcall.setCur h.blockSize_pos rfl rfl).sound_of_cur_zero rfl
  · have hctr : (s.setCtr iv).Shape := h.setCtr (h.iv_length iv hiv) hiv
    have hcall : ((s.setCtr iv).noteCall .reset).Shape := { hctr with }
    exact hcall.markCollab v

theorem State.setInitDone_of_initDone {s : State} (h : s.initDone = true) : s.setInitDone = s := by
  rw [State.setInitDone, ← h]

theorem resetAfterInit_sound {s : State} (h : s.Shape) : (resetAfterInit s).Keeps State.Sound := by
  rcases resetAfterInit_cases s with ⟨_, e⟩ | ⟨_, _, _, e⟩ | ⟨hdone, e⟩ <;> rw [e]
  · trivial
  · trivial
  · have hbody := resetBody_sound h
    have hframe := resetBody_frame s
    cases hr : resetBody s with
    | ok a t =>
      rw [hr] at hbody hframe
      have ht : t.initDone = true := (initialisation_of_streamFrame hframe.regs).2.2.trans hdone
      exact State.setInitDone_of_initDone ht ▸ hbody
    | raised e t => rwa [hr] at hbody
    | stop f => trivial

/-- BYTE_BODY loads the block it consumes from where `CUR = 0`, and finds it loaded elsewhere (R145, R38). -/
theorem byteBody_sound (b : Byte) {s : State} (h : s.Sound) : (byteBody b s).Keeps State.Sound := by
  refine readReg_ensures fun cur hcur => ?_
  have hload : (if cur = 0 then ksload s else .ok () s).Ensures
      (fun _ t => t.Shape ∧ (t.faultMark = false → t.Loaded)) (fun _ t => t.Sound) := by
    by_cases h0 : cur = 0
    · rw [if_pos h0]
      exact (ksload_sound h.toShape).mono (fun _ _ ht => ⟨ht.1, fun _ => ht.2⟩) (fun _ _ ht => ht)
    · rw [if_neg h0]
      exact ⟨h.toShape, fun hf => h.ks_valid hf cur hcur (Nat.pos_of_ne_zero h0)⟩
  refine hload.bind fun _ s1 ⟨hshape, hready⟩ => ?_
  refine ((xorByte_unchanged b s1).mono (fun _ _ e => e) (fun _ _ => False.elim)).bind fun o s2 e => ?_
  subst e
  exact (advance_sound hshape hready).bind fun _ s3 h3 => h3

theorem transformBytes_sound (l : List Byte) {s : State} (h : s.Sound) : (transformBytes l s).Keeps State.Sound := by
  induction l generalizing s with
  | nil => exact h
  | cons b l ih => exact (byteBody_sound b h).bind fun o s1 h1 => ih { h1 with }

/-- The loop delivers at most one byte for each input byte, whether it completes or not (R150, R156). -/
theorem transformBytes_out_length (l : List Byte) (s : State) :
    (transformBytes l s).Keeps (fun t => t.out.length ≤ s.out.length + l.length) := by
  induction l generalizing s with
  | nil => exact Nat.le_refl _
  | cons b l ih =>
    have hbody : (byteBody b s).Ensures (fun _ t => t.out.length = s.out.length)
        (fun _ t => t.out.length ≤ s.out.length + (b :: l).length) :=
      (byteBody_frame b s).mono (fun _ _ ht => by rw [ht.out]) (fun _ _ ht => by rw [ht.out]; omega)
    have hrest (t : State) (o : Byte) (ht : t.out.length = s.out.length) :
        (t.deliver o).out.length + l.length = s.out.length + (b :: l).length := by
      simp [ht]; omega
    exact hbody.bind fun o s1 h1 => hrest s1 o h1 ▸ ih (s1.deliver o)

/-! ### The commands -/

theorem finish_sound {r : Res Unit} {t : State} (hr : r.Keeps State.Sound) (h : finish r = .next t) : t.Sound := by
  rcases finish_next_of_ensures hr h with ⟨u, hu, rfl⟩ | ⟨e, u, hu, rfl⟩
  · exact { hu with }
  · exact { hu with }

theorem callInit_sound (k : KeyToken) {s : State} (h : s.Shape) :
    (callInit k s).Ensures (fun _ t => t.Shape) (fun _ t => t.Sound) := by
  rcases callInit_cases k s with ⟨_, e⟩ | ⟨v, _, e⟩ <;> rw [e]
  · exact { h with }
  · have hcall : ((s.noteCall (.init true k)).loseKey).Shape := { h with }
    exact hcall.markCollab v

theorem initBody_sound (k : Bool) {s : State} (h : s.Shape) (hlen : s.chan.iv.length = s.cfg.blockSize) :
    (initBody k s).Keeps State.Sound := by
  have hiv : (s.setIv s.chan.iv).Shape := h.setIv hlen
  have hkey : (if k then callInit s.chan.key (s.setIv s.chan.iv) else .ok () (s.setIv s.chan.iv)).Ensures
      (fun _ t => t.Shape) (fun _ t => t.Sound) := by
    split
    · exact callInit_sound _ hiv
    · exact hiv
  exact hkey.bind fun _ s2 h2 => (resetBody_sound h2).bind fun _ s3 h3 => h3

theorem execInit_sound {k v : Bool} {s t : State} (hs : s.Sound) (h : execInit k v s = .next t) : t.Sound := by
  rcases execInit_cases k v s with ⟨_, e⟩ | ⟨hlen, e⟩ <;> rw [e] at h
  · cases h; exact { hs with }
  · exact finish_sound (initBody_sound k hs.toShape hlen) h

theorem execXbyte_sound {data : Byte} {s t : State} (hs : s.Sound) (h : execXbyte data s = .next t) : t.Sound := by
  refine finish_sound ((byteBody_sound data hs).bind fun o s1 h1 => ?_) h
  exact (Res.ensures_ok () _).mpr { h1 with }

theorem transformStream_sound (n : Nat) (w : OpWord) {s : State} (h : s.Sound) :
    (transformStream n w s).Keeps State.Sound := by
  rcases transformStream_cases n w s with ⟨f, e⟩ | ⟨_, _, _, _, _, e⟩ | ⟨_, _, _, _, _, _, e⟩ <;> rw [e]
  · trivial
  · exact h
  · exact (transformBytes_sound _ h).bind fun _ s1 h1 => { h1 with }

/-- SKIPADJ, the eager load and `RESULT`: how SKIP and SEEK end (R165, R166, R172). -/
theorem skipAdj_ksload_sound (n : Int) (w : OpWord) {s : State} (h : s.Shape) :
    ((skipAdj n s).bind fun _ s1 => (ksload s1).bind fun _ s2 => .ok () (s2.setResult w)).Keeps State.Sound := by
  refine ((skipAdj_shape n h).mono (fun _ _ h1 => h1) (fun _ _ => False.elim)).bind fun _ s1 h1 => ?_
  refine (ksload_sound h1).bind fun _ s2 ⟨hshape, hloaded⟩ => ?_
  have h2 : s2.Sound := hshape.sound_of_loaded hloaded
  exact (Res.ensures_ok () _).mpr { h2 with }

theorem execSkip_sound {s t : State} (hs : s.Sound) (h : execSkip s = .next t) : t.Sound :=
  finish_sound (readReg_ensures fun w _ => skipAdj_ksload_sound (skipOffset w) w hs.toShape) h

theorem execSeek_sound {s t : State} (hs : s.Sound) (h : execSeek s = .next t) : t.Sound :=
  finish_sound (readReg_ensures fun w _ => (resetAfterInit_sound hs.toShape).bind fun _ _ h1 =>
    skipAdj_ksload_sound (seekPosition w) w h1.toShape) h

theorem exec_sound {i : Instr} {s t : State} (hs : s.Sound) (h : exec i s = .next t) : t.Sound := by
  cases i with
  | reset => exact finish_sound (resetAfterInit_sound hs.toShape) h
  | init k v => exact execInit_sound hs h
  | xbyte data => exact execXbyte_sound hs h
  | xblock => exact finish_sound (transformStream_sound _ _ hs) h
  | xrange => exact finish_sound (readReg_ensures fun w _ => transformStream_sound _ w hs) h
  | skip => exact execSkip_sound hs h
  | seek => exact execSeek_sound hs h
  | getpos =>
    obtain ⟨w, rfl⟩ := execGetpos_next h
    exact { hs with }

/-! ### `STATUS.ERR` and OUT -/

theorem errCode_le (e : Err) : (errCode e).toNat ≤ 4 := by cases e <;> decide

/-- Every command ends in `finish` (R190). -/
theorem exec_eq_finish (i : Instr) (s : State) : ∃ r, exec i s = finish r := by
  cases i with
  | init k v =>
    rcases execInit_cases k v s with ⟨_, e⟩ | ⟨_, e⟩
    · exact ⟨.raised .config s, e⟩
    · exact ⟨_, e⟩
  | reset | xbyte | xblock | xrange | skip | seek | getpos => exact ⟨_, rfl⟩

theorem exec_err {i : Instr} {s t : State} (h : exec i s = .next t) : ∃ e, t.err = errCode e := by
  obtain ⟨r, hr⟩ := exec_eq_finish i s
  rcases finish_next (hr.symm.trans h) with ⟨u, _, rfl⟩ | ⟨e, u, _, rfl⟩
  · exact ⟨.ok, rfl⟩
  · exact ⟨e, rfl⟩

/-- A stream command that starts with nothing delivered delivers at most `out_cap` bytes, for it checks `out_cap` first
(R151, R157). -/
theorem transformStream_out_le (n : Nat) (w : OpWord) {s : State} (hout : s.out = []) :
    (transformStream n w s).Keeps (fun t => t.out.length ≤ s.chan.outCap) := by
  rcases transformStream_cases n w s with ⟨f, e⟩ | ⟨_, _, _, _, _, e⟩ | ⟨_, _, _, _, _, hcap, e⟩ <;> rw [e]
  · trivial
  · simp [hout]
  · have hlen : s.out.length + (s.chan.input.take n).length ≤ s.chan.outCap := by simp [hout]; omega
    have hbytes := (transformBytes_out_length (s.chan.input.take n) s).mono
      (fun _ _ ht => ht.trans hlen) (fun _ _ ht => ht.trans hlen)
    exact hbytes.bind fun _ s1 h1 => h1

theorem finish_out_le {r : Res Unit} {t : State} {n : Nat} (hr : r.Keeps (fun u => u.out.length ≤ n))
    (h : finish r = .next t) : t.out.length ≤ n := by
  rcases finish_next_of_ensures hr h with ⟨u, hu, rfl⟩ | ⟨e, u, hu, rfl⟩
  · exact hu
  · exact hu

theorem exec_out_le {i : Instr} {s t : State} (hout : s.out = []) (h : exec i s = .next t) :
    t.out.length ≤ s.chan.outCap := by
  by_cases hb : i = .xblock
  · subst hb
    exact finish_out_le (transformStream_out_le _ _ hout) h
  · by_cases hr : i = .xrange
    · subst hr
      exact finish_out_le (readReg_ensures fun w _ => transformStream_out_le _ w hout) h
    · simp [exec_out hb hr h, hout]

/-! ### The statements -/

theorem exec_inv {i : Instr} {s t : State} (hs : s.Sound) (hout : s.out = []) (h : exec i s = .next t) : t.Inv := by
  obtain ⟨e, herr⟩ := exec_err h
  obtain ⟨-, -, -, hchan, -⟩ := exec_hostSideKept h
  exact inv_iff.mpr ⟨exec_sound hs h, herr ▸ errCode_le e, hchan ▸ exec_out_le hout h⟩

/-- The invariant where `IV`, `CTR`, `KS` and `CUR` are `uninit` and no command has been given (R49). -/
theorem inv_of_uninit {s : State} (hbs : 1 ≤ s.cfg.blockSize) (hiv : s.iv = .uninit) (hctr : s.ctr = .uninit)
    (hks : s.ks = .uninit) (hcur : s.cur = .uninit) (herr : s.err = 0) (hout : s.out = []) : s.Inv := by
  constructor <;> simp [hbs, hiv, hctr, hks, hcur, herr, hout]

/-- What a host access does not write of the engine's registers keeps the invariant; a command keeps it by `exec_inv`; a reset
pulse returns the registers to `uninit` (R216). -/
theorem ServeNext.inv {s t : State} {a : HostAction} (hs : s.Inv) (h : ServeNext s a t) : t.Inv := by
  obtain ⟨hsound, -, -⟩ := inv_iff.mp hs
  cases h with
  | command _ h => exact exec_inv (s := s.accept _ _) { hsound with } rfl h
  | illegal => exact inv_iff.mpr ⟨{ hsound with }, errCode_le .illegal, Nat.zero_le _⟩
  | operand v => exact { hs with }
  | ignored => exact hs
  | read r => exact { hs with }
  | pulse => exact inv_of_uninit hs.blockSize_pos rfl rfl rfl rfl rfl rfl

/-- Settles O53: a step serves one host access, or waits. -/
theorem stepKeepsInvariant : Obligations.StepKeepsInvariant := by
  intro s t hs h
  rcases step_next h with rfl | ⟨a, rest, _, h⟩
  · exact hs
  · exact ServeNext.inv (s := s.withHost rest) { hs with } h

theorem powerOn_inv {c : Config} (hc : c.wellFormed = true) : (State.powerOn c).Inv :=
  inv_of_uninit (of_decide_eq_true hc) rfl rfl rfl rfl rfl rfl

/-- Settles O54. -/
theorem powerOnHasInvariant : Obligations.PowerOnHasInvariant :=
  ⟨fun _ hc => powerOn_inv hc, powerOn_inv (by decide)⟩

end Sys2Proof.Machine
end

section
/-! PROOF. A system of several engines (20_memory.md R75): what a step of one engine does to the list of engines. -/

namespace Sys2Proof.Machine

/-! ### What a step of a system does, and what it can do -/

theorem stepAt_none {sys : List State} {n : Nat} (hn : sys[n]? = none) : stepAt n sys = .next sys := by
  simp [stepAt, hn]

theorem stepAt_some {sys : List State} {n : Nat} {s t : State} (hn : sys[n]? = some s) (hs : step s = .next t) :
    stepAt n sys = .next (sys.set n t) := by
  simp [stepAt, hn, hs]

/-- The ways in which a step of engine `n` gives a next system: no engine has that number, or the engine takes its own
step. -/
inductive StepAtNext (n : Nat) (sys : List State) : List State → Prop
  | absent (hn : sys[n]? = none) : StepAtNext n sys sys
  | engine {s t : State} (hn : sys[n]? = some s) (hs : step s = .next t) : StepAtNext n sys (sys.set n t)

theorem stepAt_next {n : Nat} {sys sys' : List State} (h : stepAt n sys = .next sys') : StepAtNext n sys sys' := by
  cases hn : sys[n]? with
  | none =>
    cases (stepAt_none hn).symm.trans h
    exact .absent hn
  | some s =>
    cases hs : step s with
    | next t =>
      cases (stepAt_some hn hs).symm.trans h
      exact .engine hn hs
    | fault f => simp [stepAt, hn, hs] at h
    | refused r => simp [stepAt, hn, hs] at h

/-! ### One engine and the others -/

theorem stepAt_length {n : Nat} {sys sys' : List State} (h : stepAt n sys = .next sys') : sys'.length = sys.length := by
  cases stepAt_next h with
  | absent => rfl
  | engine => exact List.length_set

theorem stepAt_getElem?_ne {n m : Nat} {sys sys' : List State} (h : stepAt n sys = .next sys') (hne : m ≠ n) :
    sys'[m]? = sys[m]? := by
  cases stepAt_next h with
  | absent => rfl
  | engine => exact List.getElem?_set_ne hne.symm

theorem stepAt_getElem?_self {n : Nat} {sys sys' : List State} {s : State} (h : stepAt n sys = .next sys')
    (hn : sys[n]? = some s) : ∃ t, step s = .next t ∧ sys'[n]? = some t := by
  cases stepAt_next h with
  | absent hnone => simp [hnone] at hn
  | engine hn' hs =>
    obtain rfl := Option.some.inj (hn'.symm.trans hn)
    obtain ⟨hlt, -⟩ := List.getElem?_eq_some_iff.mp hn
    exact ⟨_, hs, List.getElem?_set_self hlt⟩

/-- A step of engine `m` does not depend on the state of another engine `n`. -/
theorem stepAt_set_ne {n m : Nat} {sys b : List State} (t : State) (hne : n ≠ m) (h : stepAt m sys = .next b) :
    stepAt m (sys.set n t) = .next (b.set n t) := by
  have hsame : (sys.set n t)[m]? = sys[m]? := List.getElem?_set_ne hne
  cases stepAt_next h with
  | absent hm => exact stepAt_none (hsame.trans hm)
  | engine hm hs => rw [stepAt_some (hsame.trans hm) hs, List.set_comm _ _ hne]

/-- Steps of two engines give the same system in either order: after engine `m`'s step engine `n` is as it was, and engine
`m`'s step is the same whatever engine `n` has become. -/
theorem stepAt_comm {n m : Nat} {sys a b : List State} (hne : n ≠ m) (ha : stepAt n sys = .next a)
    (hb : stepAt m sys = .next b) : ∃ c, stepAt m a = .next c ∧ stepAt n b = .next c := by
  have hsame : b[n]? = sys[n]? := stepAt_getElem?_ne hb hne
  cases stepAt_next ha with
  | absent hn => exact ⟨b, hb, stepAt_none (hsame.trans hn)⟩
  | engine hn hs => exact ⟨_, stepAt_set_ne _ hne hb, stepAt_some (hsame.trans hn) hs⟩

/-- Settles O55. -/
theorem enginesAreIndependent : Obligations.EnginesAreIndependent :=
  ⟨fun _ _ _ h => ⟨stepAt_length h, fun _ hne => stepAt_getElem?_ne h hne, fun _ hn => stepAt_getElem?_self h hn⟩,
    fun _ _ _ _ _ hne ha hb => stepAt_comm hne ha hb⟩

end Sys2Proof.Machine
end

section
/-! PROOF. The platform's bus (20_memory.md R70; 93_implementation_defined.md I24): `registerAt` undoes the map from registers
to their offsets. -/

namespace Sys2Proof.Machine

/-- The bus offset that `REG_OFFSETS` gives a register. -/
def registerOffset (o : RegOffsets) : HostRegister → Nat
  | .cmd => o.cmd
  | .opnd => o.opnd
  | .result => o.result
  | .status => o.status

/-- Where no two registers share an offset, no earlier test of `registerAt` takes another register's offset. -/
theorem registerAt_registerOffset {o : RegOffsets} (ho : o.wellFormed = true) (r : HostRegister) :
    registerAt o (registerOffset o r) = some r := by
  simp only [RegOffsets.wellFormed, Bool.and_eq_true, decide_eq_true_eq] at ho
  obtain ⟨⟨⟨⟨⟨cmd_opnd, cmd_result⟩, cmd_status⟩, opnd_result⟩, opnd_status⟩, result_status⟩ := ho
  cases r with
  | cmd => simp [registerAt, registerOffset]
  | opnd => simp [registerAt, registerOffset, cmd_opnd.symm]
  | result => simp [registerAt, registerOffset, cmd_result.symm, opnd_result.symm]
  | status => simp [registerAt, registerOffset, cmd_status.symm, opnd_status.symm, result_status.symm]

theorem registerAt_eq_none {o : RegOffsets} {a : Nat} (ha : ∀ r, a ≠ registerOffset o r) : registerAt o a = none := by
  have hcmd : a ≠ o.cmd := ha .cmd
  have hopnd : a ≠ o.opnd := ha .opnd
  have hresult : a ≠ o.result := ha .result
  have hstatus : a ≠ o.status := ha .status
  simp [registerAt, hcmd, hopnd, hresult, hstatus]

/-- A bus access at a register's offset is the host access to that register. -/
theorem bus_registerOffset {c : Config} (hc : c.regOffsets.wellFormed = true) (r : HostRegister) (v : OpWord)
    (ch : Channels) :
    busRead c (registerOffset c.regOffsets r) = some (readAction r) ∧
      busWrite c (registerOffset c.regOffsets r) v ch = some (writeAction r v ch) := by
  simp [busRead, busWrite, registerAt_registerOffset hc r]

theorem bus_eq_none {c : Config} {a : Nat} (ha : ∀ r, a ≠ registerOffset c.regOffsets r) (v : OpWord) (ch : Channels) :
    busRead c a = none ∧ busWrite c a v ch = none := by
  simp [busRead, busWrite, registerAt_eq_none ha]

/-- Settles O58, one register at a time. -/
theorem busAccessesReachTheirRegister : Obligations.BusAccessesReachTheirRegister := by
  intro c v ch hc
  refine ⟨bus_registerOffset hc .cmd v ch, bus_registerOffset hc .opnd v ch, bus_registerOffset hc .result v ch,
    bus_registerOffset hc .status v ch, fun a hcmd hopnd hresult hstatus => bus_eq_none (fun r => ?_) v ch⟩
  cases r with
  | cmd => exact hcmd
  | opnd => exact hopnd
  | result => exact hresult
  | status => exact hstatus

end Sys2Proof.Machine
end

section
/-! PROOF. The command word (30_encoding.md R80 to R93): its fields, and that decode and encode undo each other. -/

namespace Sys2Proof

/-! ### The fields of a word (R80 to R85) -/

/-- The six fields cover the word. -/
theorem append_fields (w : CmdWord) :
    highReservedField w ++ dataField w ++ lowReservedField w ++ vField w ++ kField w ++ opField w = w := by
  unfold highReservedField dataField lowReservedField vField kField opField
  rw [BitVec.extractLsb'_append_extractLsb'_eq_extractLsb' (start₂ := 16) (start₁ := 8) rfl,
    BitVec.extractLsb'_append_extractLsb'_eq_extractLsb' (start₂ := 8) (start₁ := 6) rfl,
    BitVec.extractLsb'_append_extractLsb'_eq_extractLsb' (start₂ := 6) (start₁ := 5) rfl,
    BitVec.extractLsb'_append_extractLsb'_eq_extractLsb' (start₂ := 5) (start₁ := 4) rfl,
    BitVec.extractLsb'_append_extractLsb'_eq_extractLsb' (start₂ := 4) (start₁ := 0) rfl, BitVec.extractLsb'_eq_self]

theorem extractLsb'_one_eq_ofBool (w : CmdWord) (n : Nat) : w.extractLsb' n 1 = BitVec.ofBool (w.getLsbD n) := by
  ext j hj
  obtain rfl : j = 0 := by omega
  simp

theorem kField_eq_ofBool (w : CmdWord) : kField w = BitVec.ofBool (w.getLsbD 4) :=
  extractLsb'_one_eq_ofBool w 4

theorem vField_eq_ofBool (w : CmdWord) : vField w = BitVec.ofBool (w.getLsbD 5) :=
  extractLsb'_one_eq_ofBool w 5

section
variable (data : Byte) (v k : Bool) (op : BitVec 4)

/-- `assembleWord` with its width written as the sum of the widths of its fields, the form in which the library's lemmas
on `++` apply. -/
theorem extractLsb'_assembleWord (start len : Nat) :
    (assembleWord data v k op).extractLsb' start len =
      ((0 : BitVec 16) ++ data ++ (0 : BitVec 2) ++ BitVec.ofBool v ++ BitVec.ofBool k ++ op).extractLsb' start len :=
  rfl

@[simp] theorem opField_assembleWord : opField (assembleWord data v k op) = op :=
  BitVec.extractLsb'_append_eq_right

@[simp] theorem kField_assembleWord : kField (assembleWord data v k op) = BitVec.ofBool k := by
  simp [kField, extractLsb'_assembleWord, BitVec.extractLsb'_append_eq_of_le, BitVec.extractLsb'_append_eq_right,
    -Nat.reduceAdd]

@[simp] theorem vField_assembleWord : vField (assembleWord data v k op) = BitVec.ofBool v := by
  simp [vField, extractLsb'_assembleWord, BitVec.extractLsb'_append_eq_of_le, BitVec.extractLsb'_append_eq_right,
    -Nat.reduceAdd]

@[simp] theorem lowReservedField_assembleWord : lowReservedField (assembleWord data v k op) = 0 := by
  simp [lowReservedField, extractLsb'_assembleWord, BitVec.extractLsb'_append_eq_of_le,
    BitVec.extractLsb'_append_eq_right, -Nat.reduceAdd]

@[simp] theorem dataField_assembleWord : dataField (assembleWord data v k op) = data := by
  simp [dataField, extractLsb'_assembleWord, BitVec.extractLsb'_append_eq_of_le, BitVec.extractLsb'_append_eq_right,
    -Nat.reduceAdd]

@[simp] theorem highReservedField_assembleWord : highReservedField (assembleWord data v k op) = 0 := by
  simp [highReservedField, extractLsb'_assembleWord, BitVec.extractLsb'_append_eq_of_le, -Nat.reduceAdd]

end

/-- A word is the assembly of its own fields exactly when its reserved fields are zero. -/
theorem eq_assembleWord_iff {w : CmdWord} {data : Byte} {v k : Bool} {op : BitVec 4} :
    w = assembleWord data v k op ↔
      (highReservedField w = 0 ∧ lowReservedField w = 0) ∧ opField w = op ∧ kField w = BitVec.ofBool k ∧
        vField w = BitVec.ofBool v ∧ dataField w = data := by
  constructor
  · rintro rfl
    simp
  · rintro ⟨⟨hhigh, hlow⟩, hop, hk, hv, hdata⟩
    rw [← append_fields w, hhigh, hlow, hop, hk, hv, hdata]
    rfl

@[simp] theorem ofBool_beq_one (b : Bool) : (BitVec.ofBool b == 1#1) = b := by cases b <;> rfl

theorem ofBool_of_beq_one (x : BitVec 1) : BitVec.ofBool (x == 1#1) = x := by revert x; decide

theorem opField_getElem_three (w : CmdWord) : (opField w)[3] = w[3] := by simp [opField]

@[simp] theorem assembleWord_getElem_three (data : Byte) (v k : Bool) (op : BitVec 4) :
    (assembleWord data v k op)[3] = op[3] := by
  rw [← opField_getElem_three, opField_assembleWord]

/-! ### Decode and encode (R86, R87) -/

theorem decodePlain_eq_command_iff {w : CmdWord} {i j : Instr} :
    decodePlain w i = .command j ↔ i = j ∧ kField w = 0 ∧ vField w = 0 ∧ dataField w = 0 := by
  unfold decodePlain
  split
  · simp only [reduceCtorEq, false_iff]
    tauto
  · split <;> simp_all

/-- Every word with `CMD[3] = 1` is ILLEGAL (R92). -/
theorem decode_of_opcodeBit {w : CmdWord} (h : w.getLsbD 3 = true) : decode w = .illegal .reservedOpcode := by
  simp [decode, h]

theorem decode_encode (i : Instr) : decode (encode i) = .command i := by
  cases i with
  | init k v => simp [encode, decode]
  | xbyte data => simp [encode, decode]
  | reset | xblock | xrange | skip | seek | getpos => simp [encode, decode, decodePlain_eq_command_iff]

/-- What `encode_of_decode` needs of the six opcodes whose whole word is fixed. -/
theorem encode_eq_of_decodePlain {w : CmdWord} {i j : Instr} {op : BitVec 4}
    (hreserved : highReservedField w = 0 ∧ lowReservedField w = 0) (hop : opField w = op)
    (hi : encode i = assembleWord 0 false false op) (h : decodePlain w i = .command j) : encode j = w := by
  obtain ⟨rfl, hk, hv, hdata⟩ := decodePlain_eq_command_iff.mp h
  exact hi.trans (eq_assembleWord_iff.mpr ⟨hreserved, hop, by simpa using hk, by simpa using hv, hdata⟩).symm

/-- A word that decodes to a command has zero reserved fields, so its opcode and the fields that the command's row lets vary
are the whole word. -/
theorem encode_of_decode {w : CmdWord} {i : Instr} (h : decode w = .command i) : encode i = w := by
  unfold decode at h
  split at h
  · contradiction
  split at h
  · contradiction
  next hres =>
  have hreserved : highReservedField w = 0 ∧ lowReservedField w = 0 := by simpa using hres
  have opcode {n : Nat} (hn : (opField w).toNat = n) : opField w = BitVec.ofNat 4 n := by simp [← hn]
  split at h
  case h_1 hop | h_4 hop | h_5 hop | h_6 hop | h_7 hop | h_8 hop =>
    exact encode_eq_of_decodePlain hreserved (opcode hop) rfl h
  case h_2 hop => -- INIT
    split at h
    · contradiction
    next hdata =>
    cases h
    exact (eq_assembleWord_iff.mpr ⟨hreserved, opcode hop, (ofBool_of_beq_one _).symm, (ofBool_of_beq_one _).symm,
      not_not.mp hdata⟩).symm
  case h_3 hop => -- XBYTE
    split at h
    · contradiction
    next hkv =>
    cases h
    obtain ⟨hk, hv⟩ := not_or.mp hkv
    exact (eq_assembleWord_iff.mpr ⟨hreserved, opcode hop, by simpa using hk, by simpa using hv, rfl⟩).symm
  case h_9 => contradiction

theorem decode_eq_command_iff {w : CmdWord} {i : Instr} : decode w = .command i ↔ w = encode i :=
  ⟨fun h => (encode_of_decode h).symm, fun h => h ▸ decode_encode i⟩

/-- Settles O1. -/
theorem decodeAndEncodeAgree : Obligations.DecodeAndEncodeAgree :=
  ⟨decode_encode, fun _ _ => encode_of_decode⟩

/-! ### Must-be-zero fields and reserved opcodes (R92, R93) -/

/-- R93's must-be-zero fields, in the word of any command. -/
theorem encode_mustBeZero (i : Instr) :
    (opField (encode i) = 1 ∨ kField (encode i) = 0 ∧ vField (encode i) = 0) ∧
      (opField (encode i) = 2 ∨ dataField (encode i) = 0) ∧
      lowReservedField (encode i) = 0 ∧ highReservedField (encode i) = 0 := by
  cases i <;> simp [encode]

/-- Settles O4: the word of a command has all of these fields zero. -/
theorem mustBeZeroFieldsAreChecked : Obligations.MustBeZeroFieldsAreChecked := by
  intro w hw
  cases hd : decode w with
  | illegal why => exact ⟨why, rfl⟩
  | command i =>
    obtain rfl := decode_eq_command_iff.mp hd
    obtain ⟨hkv, hdata, hlow, hhigh⟩ := encode_mustBeZero i
    rw [kField_eq_ofBool, vField_eq_ofBool] at hkv
    obtain ⟨hop, hset⟩ | ⟨hop, hset⟩ | hset | hset := hw
    · have hzero := hkv.resolve_left hop
      cases hset <;> simp_all
    · exact absurd (hdata.resolve_left hop) hset
    · exact absurd hlow hset
    · exact absurd hhigh hset

/-- Settles O3. -/
theorem reservedOpcodesAreIllegal : Obligations.ReservedOpcodesAreIllegal :=
  fun _ h => ⟨_, decode_of_opcodeBit h⟩

/-- Settles O5. -/
theorem sampleWordsDecode : Obligations.SampleWordsDecode :=
  ⟨decode_encode .reset, decode_encode (.init false true), decode_encode (.init true false),
    decode_encode (.xbyte 0x5A), decode_encode .xblock, decode_encode .xrange, decode_encode .skip, decode_encode .seek,
    decode_encode .getpos, ⟨.dataOutsideXbyte, by decide⟩, ⟨.reservedBits, by decide⟩,
    ⟨.keyOrIvBitOutsideInit, by decide⟩⟩

/-! ### The opcode map (R86) -/

theorem selectsRow_iff {w : CmdWord} {i : Instr} : selectsRow w i = true ↔ w &&& (tableRow i).2 = (tableRow i).1 := by
  simp [selectsRow]

theorem selectsRow_encode (i : Instr) : selectsRow (encode i) i = true := by
  cases i with
  | reset => exact Laws.EncodesToItsRow.reset
  | init k v => exact Laws.EncodesToItsRow.init k v
  | xbyte data => exact Laws.EncodesToItsRow.xbyte data
  | xblock => exact Laws.EncodesToItsRow.xblock
  | xrange => exact Laws.EncodesToItsRow.xrange
  | skip => exact Laws.EncodesToItsRow.skip
  | seek => exact Laws.EncodesToItsRow.seek
  | getpos => exact Laws.EncodesToItsRow.getpos

/-- A masked comparison fixes every field that the mask covers. -/
theorem extractLsb'_eq_of_masked {w mask c : CmdWord} {start len : Nat} (h : w &&& mask = c)
    (hmask : mask.extractLsb' start len = BitVec.allOnes len) : w.extractLsb' start len = c.extractLsb' start len := by
  rw [← h, BitVec.extractLsb'_and, hmask, BitVec.and_allOnes]

/-- INIT's row leaves K and V free. -/
theorem eq_encode_init_of_selectsRow {w : CmdWord} {k v : Bool} (h : selectsRow w (.init k v) = true) :
    w = encode (.init (w.getLsbD 4) (w.getLsbD 5)) :=
  have hw : w &&& 0xFFFFFFCF = 0x00000001 := selectsRow_iff.mp h
  eq_assembleWord_iff.mpr ⟨⟨extractLsb'_eq_of_masked hw rfl, extractLsb'_eq_of_masked hw rfl⟩,
    extractLsb'_eq_of_masked hw rfl, kField_eq_ofBool w, vField_eq_ofBool w, extractLsb'_eq_of_masked hw rfl⟩

/-- XBYTE's row leaves DATA free. -/
theorem eq_encode_xbyte_of_selectsRow {w : CmdWord} {data : Byte} (h : selectsRow w (.xbyte data) = true) :
    w = encode (.xbyte (dataField w)) :=
  have hw : w &&& 0xFFFF00FF = 0x00000002 := selectsRow_iff.mp h
  eq_assembleWord_iff.mpr ⟨⟨extractLsb'_eq_of_masked hw rfl, extractLsb'_eq_of_masked hw rfl⟩,
    extractLsb'_eq_of_masked hw rfl, extractLsb'_eq_of_masked hw rfl, extractLsb'_eq_of_masked hw rfl, rfl⟩

/-- Where a row's mask covers the whole word, only the command's own word selects the row. -/
theorem eq_encode_of_selectsRow {w : CmdWord} {i : Instr} (hmask : (tableRow i).2 = BitVec.allOnes 32)
    (h : selectsRow w i = true) : w = encode i := by
  have hi := selectsRow_iff.mp (selectsRow_encode i)
  have hw := selectsRow_iff.mp h
  rw [hmask, BitVec.and_allOnes] at hi hw
  exact hw.trans hi.symm

theorem exists_encode_of_selectsRow {w : CmdWord} {j : Instr} (h : selectsRow w j = true) :
    ∃ i, w = encode i ∧ tableRow i = tableRow j := by
  cases j with
  | init k v => exact ⟨_, eq_encode_init_of_selectsRow h, rfl⟩
  | xbyte data => exact ⟨_, eq_encode_xbyte_of_selectsRow h, rfl⟩
  | reset | xblock | xrange | skip | seek | getpos => exact ⟨_, eq_encode_of_selectsRow rfl h, rfl⟩

theorem selectsRow_iff_exists_decode {w : CmdWord} {j : Instr} :
    selectsRow w j = true ↔ ∃ i, decode w = .command i ∧ tableRow i = tableRow j := by
  simp only [decode_eq_command_iff]
  refine ⟨exists_encode_of_selectsRow, ?_⟩
  rintro ⟨i, rfl, hrow⟩
  rw [selectsRow_iff, ← hrow]
  exact selectsRow_iff.mp (selectsRow_encode i)

/-- K and V of a word that decodes to INIT are its bits 4 and 5. -/
theorem decode_init_fields {w : CmdWord} {k v : Bool} (h : decode w = .command (.init k v)) :
    k = w.getLsbD 4 ∧ v = w.getLsbD 5 := by
  obtain ⟨-, -, hk, hv, -⟩ := eq_assembleWord_iff.mp (decode_eq_command_iff.mp h)
  rw [kField_eq_ofBool, BitVec.ofBool_eq_iff_eq] at hk
  rw [vField_eq_ofBool, BitVec.ofBool_eq_iff_eq] at hv
  exact ⟨hk.symm, hv.symm⟩

theorem decode_xbyte_data {w : CmdWord} {data : Byte} (h : decode w = .command (.xbyte data)) : data = dataField w := by
  obtain ⟨-, -, -, -, hdata⟩ := eq_assembleWord_iff.mp (decode_eq_command_iff.mp h)
  exact hdata.symm

/-- Settles O2. -/
theorem decodeFollowsOpcodeMap : Obligations.DecodeFollowsOpcodeMap :=
  ⟨fun _ _ => selectsRow_iff_exists_decode, fun _ _ _ => decode_init_fields, fun _ _ => decode_xbyte_data⟩

end Sys2Proof
end

section
/-! PROOF. The lines of the assembler (30_encoding.md R89, R95, R96): a line's host accesses carry its operands. -/

namespace Sys2Proof.Machine

/-! ### Numbers that fit their field (R8, R13) -/

theorem signedOperand_iff {n : Int} : signedOperand n = true ↔ -2 ^ 63 ≤ n ∧ n < 2 ^ 63 := by
  simp [signedOperand]

theorem skipOffset_ofInt {n : Int} (hn : signedOperand n = true) : skipOffset (BitVec.ofInt 64 n) = n := by
  obtain ⟨hlo, hhi⟩ := signedOperand_iff.mp hn
  exact BitVec.toInt_ofInt_eq_self (by decide) hlo hhi

theorem toNat_ofNat_of_unsignedOperand {n : Nat} (hn : unsignedOperand n = true) : (BitVec.ofNat 64 n).toNat = n :=
  (BitVec.toNat_ofNat n 64).trans (Nat.mod_eq_of_lt (of_decide_eq_true hn))

theorem toNat_ofNat_of_byte {b : Nat} (hb : b < 256) : (BitVec.ofNat 8 b).toNat = b :=
  (BitVec.toNat_ofNat b 8).trans (Nat.mod_eq_of_lt hb)

theorem map_toNat_asBytes {l : List Nat} (hl : bytesInRange l = true) : (asBytes l).map BitVec.toNat = l := by
  simp only [bytesInRange, List.all_eq_true, decide_eq_true_eq] at hl
  rw [asBytes, List.map_map]
  exact (List.map_congr_left fun b hb => toNat_ofNat_of_byte (hl b hb)).trans (List.map_id l)

/-- Settles O56. -/
theorem pseudoCommandExpansions : Obligations.PseudoCommandExpansions := by
  intro bs
  refine ⟨fun _ _ _ => ⟨rfl, rfl⟩, fun _ => rfl, fun _ _ => rfl, rfl, fun _ => rfl, fun m => ?_⟩
  exact signedOperand_iff

/-- Settles O57, one form of line at a time. -/
theorem linesWriteTheirOperands : Obligations.LinesWriteTheirOperands := by
  intro bs
  refine ⟨fun n hn => ?_, fun p hp => ?_, fun n l cap h => ?_, fun b hb => ?_, fun iv key hiv => ?_, fun key => ?_,
    fun l cap hl => ?_⟩
  · exact ⟨_, _, _, rfl, skipOffset_ofInt hn, decode_encode .skip⟩
  · exact ⟨_, _, _, rfl, toNat_ofNat_of_unsignedOperand hp, decode_encode .seek⟩
  · obtain ⟨hn, hl⟩ := Bool.and_eq_true_iff.mp h
    exact ⟨_, _, _, rfl, toNat_ofNat_of_unsignedOperand hn, decode_encode .xrange, map_toNat_asBytes hl, rfl⟩
  · exact ⟨_, _, _, rfl, decode_encode (.xbyte _), toNat_ofNat_of_byte (of_decide_eq_true hb)⟩
  · exact ⟨_, _, rfl, decode_encode (.init _ true), map_toNat_asBytes hiv, fun k hk => hk ▸ rfl⟩
  · exact ⟨_, _, rfl, decode_encode (.init _ false), fun k hk => hk ▸ rfl⟩
  · exact ⟨_, _, rfl, decode_encode .xblock, map_toNat_asBytes hl, rfl⟩

end Sys2Proof.Machine
end

section
/-! PROOF. The counter unit (40_counter_arith.md R105 to R116). Each carry or borrow chain satisfies an exact equation with its
carry out, so each operation is `bytes` of a sum of integers; ADDN is then the one translation that the others are written in. -/

namespace Sys2Proof.Machine

/-! ### Buffers that agree modulo `2^CW` -/

theorem bytesOf_congr {n : Nat} {v w : Int} (h : v ≡ w [ZMOD counterSpace n]) : bytesOf n v = bytesOf n w := by
  rw [bytesOf, h.eq, ← bytesOf]

theorem be_bytesOf_modEq (n : Nat) (v : Int) : be (bytesOf n v) ≡ v [ZMOD counterSpace n] := by
  simp [Int.ModEq, be_bytesOf, counterSpace]

/-- A buffer is `bytes(v)` when its value and `v` differ by whole turns of the counter space. -/
theorem eq_bytesOf {n : Nat} {x : List Byte} {v turns : Int} (hlen : x.length = n)
    (h : v = be x + 256 ^ n * turns) : x = bytesOf n v := by
  subst hlen
  have hv : be x ≡ v [ZMOD counterSpace x.length] :=
    Int.modEq_iff_add_fac.mpr ⟨turns, by rw [h, counterSpace_eq]; norm_cast⟩
  exact (bytesOf_be x).symm.trans (bytesOf_congr hv)

/-! ### The exact equation of each chain -/

theorem be_incChain (a : List Byte) : be (incChain a).2 + 256 ^ a.length * (incChain a).1.toNat = be a + 1 := by
  induction a with
  | nil => rfl
  | cons b l ih =>
    have carry : (b + 1).toNat + 256 * (b + 1 == 0).toNat = b.toNat + 1 := by revert b; decide
    cases hc : (incChain l).1 with
    | false =>
      simp only [hc, Bool.toNat_false] at ih
      simp only [incChain, hc, be_cons, incChain_length, Bool.toNat_false, Bool.false_eq_true, if_false]
      linear_combination ih
    | true =>
      simp only [hc, Bool.toNat_true] at ih
      simp only [incChain, hc, be_cons, incChain_length, List.length_cons, if_true]
      linear_combination ih + 256 ^ l.length * carry

theorem be_decChain (a : List Byte) : be (decChain a).2 + 1 = be a + 256 ^ a.length * (decChain a).1.toNat := by
  induction a with
  | nil => rfl
  | cons b l ih =>
    have borrow : (b - 1).toNat + 1 = b.toNat + 256 * (b == 0).toNat := by revert b; decide
    cases hc : (decChain l).1 with
    | false =>
      simp only [hc, Bool.toNat_false] at ih
      simp only [decChain, hc, be_cons, decChain_length, Bool.toNat_false, Bool.false_eq_true, if_false]
      linear_combination ih
    | true =>
      simp only [hc, Bool.toNat_true] at ih
      simp only [decChain, hc, be_cons, decChain_length, List.length_cons, if_true]
      linear_combination ih + 256 ^ l.length * borrow

theorem be_addChain {a d : List Byte} (h : a.length = d.length) :
    be (addChain a d).2 + 256 ^ a.length * (addChain a d).1 = be a + be d := by
  induction a generalizing d with
  | nil => obtain rfl := List.length_eq_zero_iff.mp h.symm; rfl
  | cons x a ih =>
    cases d with
    | nil => simp at h
    | cons y d =>
      have hl : a.length = d.length := by simpa using h
      have hdigit := Nat.mod_add_div (x.toNat + y.toNat + (addChain a d).1) 256
      simp only [addChain, be_cons, addChain_length a d hl, ← hl, List.length_cons, BitVec.toNat_ofNat, Nat.reducePow,
        Nat.mod_mod]
      linear_combination ih hl + 256 ^ a.length * hdigit

/-- The borrow out of a byte is the quotient by 256 with its sign turned, as long as the borrow into it is 0 or 1. -/
theorem borrow_eq_neg_ediv (x y : Byte) {r : Nat} (hr : r ≤ 1) :
    ((if (x.toNat : Int) - y.toNat - r < 0 then 1 else 0 : Nat) : Int) = -(((x.toNat : Int) - y.toNat - r) / 256) := by
  split <;> omega

theorem subChain_borrow_le (a d : List Byte) : (subChain a d).1 ≤ 1 := by
  cases a with
  | nil => simp [subChain]
  | cons x a =>
    cases d with
    | nil => simp [subChain]
    | cons y d => simp only [subChain]; split <;> simp

theorem be_subChain {a d : List Byte} (h : a.length = d.length) :
    (be (subChain a d).2 : Int) = be a - be d + 256 ^ a.length * (subChain a d).1 := by
  induction a generalizing d with
  | nil => obtain rfl := List.length_eq_zero_iff.mp h.symm; rfl
  | cons x a ih =>
    cases d with
    | nil => simp at h
    | cons y d =>
      have hl : a.length = d.length := by simpa using h
      have hdigit := Int.emod_add_mul_ediv ((x.toNat : Int) - y.toNat - (subChain a d).1) 256
      have hbyte : ((((x.toNat : Int) - y.toNat - (subChain a d).1) % 256).toNat % 256 : Nat) =
        ((x.toNat : Int) - y.toNat - (subChain a d).1) % 256 := by omega
      simp only [subChain, be_cons, subChain_length a d hl, ← hl, List.length_cons, BitVec.toNat_ofNat, Nat.reducePow,
        Nat.cast_add, Nat.cast_mul, Nat.cast_pow, hbyte, borrow_eq_neg_ediv x y (subChain_borrow_le a d)]
      push_cast
      linear_combination ih hl + 256 ^ a.length * hdigit

/-! ### Each operation as `bytes` of a sum -/

theorem inc_eq_bytesOf (a : List Byte) : inc a = bytesOf a.length (be a + 1) :=
  eq_bytesOf (turns := (incChain a).1.toNat) (inc_length a) (by exact_mod_cast (be_incChain a).symm)

theorem dec_eq_bytesOf (a : List Byte) : dec a = bytesOf a.length (be a - 1) := by
  have hchain : (be (dec a) : Int) + 1 = be a + 256 ^ a.length * (decChain a).1.toNat := by exact_mod_cast be_decChain a
  exact eq_bytesOf (turns := -(decChain a).1.toNat) (dec_length a) (by linear_combination -hchain)

theorem diff_eq_bytesOf {c i : List Byte} (h : c.length = i.length) : diff c i = bytesOf c.length (be c - be i) :=
  eq_bytesOf (turns := -(subChain c i).1) (diff_length c i h) (by rw [diff, be_subChain h]; ring)

/-- The digits that ADDN and SUBN align with the buffer (R110, R112) are the bytes of the count. -/
theorem digits_count (n k : Nat) : digits n (k % counterSpace n) = bytesOf n k := by
  rw [bytesOf, ← Int.natCast_mod, Int.toNat_natCast]

theorem addNat_eq_bytesOf (a : List Byte) (k : Nat) : addNat a k = bytesOf a.length (be a + k) := by
  have hchain := be_addChain (bytesOf_length a.length k).symm
  have hsum : addNat a k = bytesOf a.length (be a + be (bytesOf a.length k)) :=
    eq_bytesOf (turns := (addChain a (bytesOf a.length k)).1) (addNat_length a k)
      (by rw [addNat, digits_count]; exact_mod_cast hchain.symm)
  rw [hsum, bytesOf_congr ((be_bytesOf_modEq a.length k).add_left _)]

/-- SUBN runs the chain of DIFF over the bytes of the count. -/
theorem subNat_eq_bytesOf (a : List Byte) (k : Nat) : subNat a k = bytesOf a.length (be a - k) := by
  rw [subNat, digits_count, ← diff, diff_eq_bytesOf (bytesOf_length _ _).symm,
    bytesOf_congr ((be_bytesOf_modEq a.length k).sub_left _)]

theorem addn_eq_bytesOf (a : List Byte) (k : Int) : addn a k = bytesOf a.length (be a + k) := by
  unfold addn
  split
  next hk => rw [addNat_eq_bytesOf, Int.toNat_of_nonneg hk]
  next hk => rw [subNat_eq_bytesOf, Int.toNat_of_nonneg (by omega), sub_neg_eq_add]

/-! ### ADDN is a translation, and the other operations are ADDN of a fixed count -/

@[simp] theorem addn_addn (a : List Byte) (j k : Int) : addn (addn a j) k = addn a (j + k) := by
  simp only [addn_eq_bytesOf, bytesOf_length, ← add_assoc]
  exact bytesOf_congr ((be_bytesOf_modEq _ _).add_right k)

@[simp] theorem addn_zero (a : List Byte) : addn a 0 = a := by
  rw [addn_eq_bytesOf, add_zero, bytesOf_be]

theorem inc_eq_addn (a : List Byte) : inc a = addn a 1 := by
  rw [inc_eq_bytesOf, addn_eq_bytesOf]

theorem dec_eq_addn (a : List Byte) : dec a = addn a (-1) := by
  rw [dec_eq_bytesOf, addn_eq_bytesOf, sub_eq_add_neg]

theorem subn_eq_addn (a : List Byte) (k : Int) : subn a k = addn a (-k) := by
  rw [addn_eq_bytesOf]
  unfold subn
  split
  next hk => rw [subNat_eq_bytesOf, Int.toNat_of_nonneg hk, sub_eq_add_neg]
  next hk => rw [addNat_eq_bytesOf, Int.toNat_of_nonneg (by omega)]

theorem inc_iterate (a : List Byte) (k : Nat) : inc^[k] a = addn a k := by
  induction k with
  | zero => simp
  | succ k ih => simp [Function.iterate_succ_apply', ih, inc_eq_addn]

theorem dec_iterate (a : List Byte) (k : Nat) : dec^[k] a = addn a (-k) := by
  induction k with
  | zero => simp
  | succ k ih => simp [Function.iterate_succ_apply', ih, dec_eq_addn, add_comm]

/-- The laws R107, R109, R111 and R113 at once. -/
theorem be_addn (a : List Byte) (k : Int) : (be (addn a k) : Int) = ((be a : Int) + k) % 2 ^ (8 * a.length) := by
  rw [addn_eq_bytesOf, be_bytesOf]

/-! ### Which bytes a chain changes (R107, R109) -/

/-- A chain whose carry stops below leaves the bytes before it as they are. -/
theorem incChain_append {m : List Byte} (l : List Byte) (h : (incChain m).1 = false) :
    incChain (l ++ m) = (false, l ++ (incChain m).2) := by
  induction l with
  | nil => exact Prod.ext h rfl
  | cons b l ih => simp [incChain, ih]

theorem incChain_ones (n : Nat) : incChain (List.replicate n 0xFF) = (true, List.replicate n 0x00) := by
  induction n with
  | zero => rfl
  | succ n ih => rw [List.replicate_succ, incChain, ih]; rfl

theorem decChain_zeros (n : Nat) : decChain (List.replicate n 0x00) = (true, List.replicate n 0xFF) := by
  induction n with
  | zero => rfl
  | succ n ih => rw [List.replicate_succ, decChain, ih]; rfl

theorem inc_append_ones (l : List Byte) {b : Byte} (n : Nat) (hb : b ≠ 0xFF) :
    inc (l ++ b :: List.replicate n 0xFF) = l ++ (b + 1) :: List.replicate n 0x00 := by
  have hstop : (b + 1 == 0) = false := by revert b; decide
  have htail : incChain (b :: List.replicate n 0xFF) = (false, (b + 1) :: List.replicate n 0x00) := by
    simp only [incChain, incChain_ones, hstop, if_true]
  rw [inc, incChain_append l (by rw [htail]), htail]

/-! ### The laws of INC, DEC, ADDN, SUBN and DIFF -/

/-- Settles O12. -/
theorem incLaw : Obligations.IncLaw := by
  refine ⟨fun a => ⟨inc_length a, ?_⟩, fun l b n hb => inc_append_ones l n hb, fun n => ?_⟩
  · rw [inc_eq_addn]
    exact_mod_cast be_addn a 1
  · rw [inc, incChain_ones]

/-- Settles O13: INC and DEC are translations by 1 and -1. -/
theorem decLaw : Obligations.DecLaw := by
  refine ⟨fun a => ⟨dec_length a, ?_⟩, fun a => ?_, fun n => ?_⟩
  · rw [dec_eq_addn]
    exact be_addn a (-1)
  · simp [inc_eq_addn, dec_eq_addn]
  · rw [dec, decChain_zeros]

/-- Settles O14. -/
theorem addnLaw : Obligations.AddnLaw :=
  ⟨fun a k => ⟨addn_length a k, be_addn a k⟩, fun a k => (inc_iterate a k).symm⟩

/-- Settles O15: SUBN of `k` is ADDN of `-k`. -/
theorem subnLaw : Obligations.SubnLaw := by
  refine ⟨fun a k => ⟨subn_length a k, ?_⟩, fun a k => ?_, fun a => ?_⟩
  · rw [subn_eq_addn]
    exact be_addn a (-k)
  · rw [subn_eq_addn, dec_iterate]
  · rw [subn_eq_addn, inc_eq_addn, neg_neg]

/-- Settles O16. -/
theorem diffLaw : Obligations.DiffLaw := by
  intro c i h
  refine ⟨diff_length c i h, ?_⟩
  rw [diff_eq_bytesOf h, be_bytesOf]

/-! ### WINDOW (R116) -/

theorem be_append (l m : List Byte) : be (l ++ m) = be l * 256 ^ m.length + be m := by
  induction l with
  | nil => simp
  | cons b l ih =>
    simp only [List.cons_append, be_cons, List.length_append, ih]
    ring

/-- The value modulo `256^n` is that of the last `n` bytes. -/
theorem be_mod_pow {n : Nat} {r : List Byte} (h : n ≤ r.length) : be r % 256 ^ n = be (r.drop (r.length - n)) := by
  have hlow : (r.drop (r.length - n)).length = n := by simp; omega
  have hsplit := be_append (r.take (r.length - n)) (r.drop (r.length - n))
  rw [List.take_append_drop, hlow] at hsplit
  have hlt : be (r.drop (r.length - n)) < 256 ^ n := by simpa only [hlow] using be_lt (r.drop (r.length - n))
  rw [hsplit, Nat.mul_add_mod_self_right, Nat.mod_eq_of_lt hlt]

/-- Settles O17. -/
theorem windowLaw : Obligations.WindowLaw := by
  refine fun n r => ⟨rfl, fun h => ?_, fun h => ?_⟩
  · rw [window, Nat.pow_mul]
    exact be_mod_pow h
  · have hwide : 2 ^ (8 * r.length) ≤ 2 ^ (8 * n) := Nat.pow_le_pow_right (by decide) (by omega)
    exact Nat.mod_eq_of_lt ((be_lt_two_pow r).trans_le hwide)

end Sys2Proof.Machine
end

section
/-! PROOF. The position unit (40_counter_arith.md R121 to R125): with `t = CUR + n`, both branches of the skip adjustment move
the counter by the quotient of `t` by BS and leave the remainder in the cursor; only TRUNC's short backward skip does not. -/

namespace Sys2Proof.Machine

/-! ### The skip adjustment in closed form -/

/-- Where a skip ends under FLOOR (R123). -/
def skipLanding (bs : Nat) (n : Int) (ctr : List Byte) (cur : Nat) : List Byte × Nat :=
  (addn ctr ((cur + n) / bs), ((cur + n) % bs).toNat)

/-- A quotient `q` whose remainder is in `[0, BS)` is the one of the landing. -/
theorem skipLanding_eq {bs cur r : Nat} {n q : Int} (ctr : List Byte) (hr : r < bs) (ht : (cur : Int) + n = r + bs * q) :
    skipLanding bs n ctr cur = (addn ctr q, r) := by
  obtain ⟨hdiv, hmod⟩ := (Int.ediv_emod_unique (a := cur + n) (b := bs) (r := r) (q := q) (by omega)).mpr
    ⟨ht.symm, by omega, by omega⟩
  rw [skipLanding, hdiv, hmod, Int.toNat_natCast]

theorem skipLanding_ctr (bs : Nat) (n : Int) (ctr : List Byte) (cur : Nat) :
    (skipLanding bs n ctr cur).1 = addn ctr ((cur + n) / bs) := rfl

theorem skipLanding_cur {bs : Nat} (n : Int) (ctr : List Byte) (cur : Nat) (hbs : 1 ≤ bs) :
    ((skipLanding bs n ctr cur).2 : Int) = (cur + n) % bs :=
  Int.toNat_of_nonneg (Int.emod_nonneg _ (by omega))

theorem skipForward_eq_skipLanding {bs : Nat} (n : Nat) (ctr : List Byte) (cur : Nat) (hbs : 1 ≤ bs) :
    skipForward bs n ctr cur = skipLanding bs n ctr cur := by
  have hsplit := Nat.div_add_mod (n + cur) bs
  have hrest : n + cur - bs * ((n + cur) / bs) = (n + cur) % bs := by omega
  rw [skipLanding_eq (q := ((n + cur) / bs : Nat)) ctr (Nat.mod_lt (n + cur) hbs)
    (by rw [add_comm (cur : Int)]; exact_mod_cast (Nat.mod_add_div (n + cur) bs).symm)]
  simp only [skipForward, hrest]

/-- A backward skip lands as R123 says when `nb` leaves a gap in `(-BS, 0]`: then `nb` rounds `-t / BS` down. -/
theorem skipBackwardBy_eq_skipLanding {bs cur : Nat} {n nb : Int} (ctr : List Byte)
    (hlow : -(bs : Int) < cur + n + bs * nb) (hhigh : cur + n + bs * nb ≤ 0) :
    skipBackwardBy bs n nb ctr cur = skipLanding bs n ctr cur := by
  unfold skipBackwardBy
  dsimp only
  split
  next hgap =>
    rw [skipLanding_eq (q := -nb) (r := 0) ctr (by omega) (by push_cast; linarith), subn_eq_addn]
  next hgap =>
    rw [skipLanding_eq (q := -nb + -1) (r := (bs + (cur + n + bs * nb)).toNat) ctr (by omega)
      (by rw [Int.toNat_of_nonneg (by omega)]; ring), dec_eq_addn, subn_eq_addn, addn_addn]

/-- TRUNC divides as FLOOR does unless `total < 0`, the case `-n < CUR` (R124). -/
theorem negSkipQuotient_eq_ediv {d : NegSkipDiv} {total : Int} (bs : Nat) (h : d = .floor ∨ 0 ≤ total) :
    negSkipQuotient d total bs = total / bs := by
  cases d with
  | floor => exact Int.fdiv_eq_ediv_of_nonneg _ (Int.natCast_nonneg _)
  | trunc => exact Int.tdiv_eq_ediv_of_nonneg (h.resolve_left (by decide))

theorem skipBackward_eq_skipLanding {bs cur : Nat} {d : NegSkipDiv} {n : Int} (ctr : List Byte) (hbs : 1 ≤ bs)
    (h : d = .floor ∨ 0 ≤ -n - cur) : skipBackward bs d n ctr cur = skipLanding bs n ctr cur := by
  have hrem := Int.emod_nonneg (-n - cur) (b := bs) (by omega)
  have hlt := Int.emod_lt_of_pos (-n - cur) (b := bs) (by omega)
  have hsplit := Int.mul_ediv_add_emod (-n - cur) bs
  rw [skipBackward, negSkipQuotient_eq_ediv bs h]
  exact skipBackwardBy_eq_skipLanding ctr (by omega) (by omega)

/-- The closed form holds of every skip, but of TRUNC's backward skip by less than the cursor (R123, R124). -/
theorem skipTarget_eq_skipLanding {c : Config} {n : Int} {cur : Nat} (ctr : List Byte) (hbs : 1 ≤ c.blockSize)
    (h : c.negSkipDiv = .floor ∨ ¬ (0 < -n ∧ -n < (cur : Int))) :
    skipTarget c n ctr cur = skipLanding c.blockSize n ctr cur := by
  by_cases hn : 0 ≤ n
  · rw [skipTarget, if_pos hn, skipForward_eq_skipLanding _ _ _ hbs, Int.toNat_of_nonneg hn]
  · rw [skipTarget, if_neg hn]
    exact skipBackward_eq_skipLanding ctr hbs (h.imp_right fun hlong => by omega)

/-- R124's exception: the quotient is 0 and the gap is positive. -/
theorem skipTarget_trunc_short {c : Config} {n : Int} {cur : Nat} (ctr : List Byte) (hc : c.negSkipDiv = .trunc)
    (hcur : cur < c.blockSize) (hshort : 0 < -n ∧ -n < (cur : Int)) : skipTarget c n ctr cur = (ctr, 0) := by
  obtain ⟨hneg, hlt⟩ := hshort
  have hquot : negSkipQuotient .trunc (-n - cur) c.blockSize = 0 := by
    rw [negSkipQuotient, show -n - (cur : Int) = -(cur + n) by ring, Int.neg_tdiv,
      Int.tdiv_eq_zero_of_lt (by omega) (by omega), neg_zero]
  have hgap : 0 ≤ (cur : Int) + n + c.blockSize * 0 := by omega
  rw [skipTarget, if_neg (by omega), skipBackward, hc, hquot, skipBackwardBy, if_pos hgap, subn_eq_addn, neg_zero,
    addn_zero]

/-! ### The logical position (R39) -/

/-- A mixed-radix number reduced modulo the whole radix keeps its low digit. -/
theorem mul_add_emod_mul {x b c m : Int} (hm : 0 < m) (hc : 0 ≤ c) (hcb : c < b) :
    (x * b + c) % (m * b) = x % m * b + c := by
  have hnonneg := Int.emod_nonneg x hm.ne'
  have hbelow : (x % m + 1) * b ≤ m * b := mul_le_mul_of_nonneg_right (Int.emod_lt_of_pos x hm) (by omega)
  have hsplit : x % m * b + c + m * b * (x / m) = x * b + c := by
    linear_combination b * Int.emod_add_mul_ediv x m
  exact ((Int.ediv_emod_unique (mul_pos hm (by omega))).mpr
    ⟨hsplit, add_nonneg (mul_nonneg hnonneg (by omega)) hc, by linarith⟩).2

/-- Below BS the cursor is the low digit of the position, so a turn of the counter is a turn of the position. -/
theorem logicalPosition_eq_emod {bs cur : Nat} (iv ctr : List Byte) (hcur : cur < bs) :
    (logicalPosition bs iv ctr cur : Int) = (((be ctr : Int) - be iv) * bs + cur) % positionSpace bs := by
  have hspace : (0 : Int) < counterSpace bs := by exact_mod_cast counterSpace_pos bs
  rw [positionSpace, Nat.cast_mul, mul_add_emod_mul hspace (by omega) (by omega), logicalPosition, Nat.cast_add,
    Nat.cast_mul, Int.toNat_of_nonneg (Int.emod_nonneg _ hspace.ne')]

theorem be_addn_modEq (a : List Byte) (k : Int) : be (addn a k) ≡ be a + k [ZMOD counterSpace a.length] := by
  rw [addn_eq_bytesOf]
  exact be_bytesOf_modEq _ _

theorem skipLanding_cur_lt {bs : Nat} (n : Int) (ctr : List Byte) (cur : Nat) (hbs : 1 ≤ bs) :
    (skipLanding bs n ctr cur).2 < bs := by
  have hlt := Int.emod_lt_of_pos ((cur : Int) + n) (b := bs) (by omega)
  rw [← skipLanding_cur n ctr cur hbs] at hlt
  exact_mod_cast hlt

/-- The landing moves the logical position by `n` (R123). -/
theorem logicalPosition_skipLanding {bs cur : Nat} (n : Int) (iv : List Byte) {ctr : List Byte} (hctr : ctr.length = bs)
    (hcur : cur < bs) :
    (logicalPosition bs iv (skipLanding bs n ctr cur).1 (skipLanding bs n ctr cur).2 : Int) =
      ((logicalPosition bs iv ctr cur : Int) + n) % positionSpace bs := by
  have hbs : 1 ≤ bs := by omega
  rw [logicalPosition_eq_emod iv _ (skipLanding_cur_lt n ctr cur hbs), logicalPosition_eq_emod iv ctr hcur,
    Int.emod_add_emod]
  have hturn : (be (skipLanding bs n ctr cur).1 - be iv : Int) * bs ≡
      (be ctr + (cur + n) / bs - be iv) * bs [ZMOD counterSpace bs * bs] :=
    ((hctr ▸ be_addn_modEq ctr ((cur + n) / bs)).sub_right (be iv : Int)).mul_right'
  rw [skipLanding_cur n ctr cur hbs, Int.emod_def (cur + n), positionSpace, Nat.cast_mul, (hturn.add_right _).eq]
  congr 1
  ring

/-- Settles O18. -/
theorem skipClosedForm : Obligations.SkipClosedForm := by
  intro c n ctr cur hbs hc hctr
  rw [skipTarget_eq_skipLanding ctr hbs (.inl hc)]
  refine ⟨?_, fun iv hcur => logicalPosition_skipLanding n iv hctr hcur⟩
  rw [skipLanding, addn_eq_bytesOf, hctr, Int.fdiv_eq_ediv_of_nonneg _ (Int.natCast_nonneg _)]

/-- Settles O19: outside the exception both divisions have the closed form. -/
theorem truncDeviation : Obligations.TruncDeviation := by
  intro c n iv ctr cur hbs hc _ hcur
  refine ⟨fun hshort => ⟨skipTarget_trunc_short ctr hc hcur hshort, ?_⟩, fun hlong => ?_⟩
  · simp [logicalPosition]
  · have hfloor := skipTarget_eq_skipLanding (c := { c with negSkipDiv := .floor }) (n := n) (cur := cur) ctr hbs (.inl rfl)
    exact (skipTarget_eq_skipLanding ctr hbs (.inr hlong)).trans hfloor.symm

/-! ### Skip and skip back (R125) -/

theorem skipLanding_neg_skipLanding {bs cur : Nat} (n : Int) (ctr : List Byte) (hcur : cur < bs) :
    skipLanding bs (-n) (skipLanding bs n ctr cur).1 (skipLanding bs n ctr cur).2 = (ctr, cur) := by
  have hback : ((skipLanding bs n ctr cur).2 : Int) + -n = cur + bs * -((cur + n) / bs) := by
    rw [skipLanding_cur n ctr cur (by omega), Int.emod_def]
    ring
  rw [skipLanding_eq _ hcur hback, skipLanding_ctr, addn_addn, add_neg_cancel, addn_zero]

/-- Under TRUNC the exception at the first skip leaves cursor 0, and the skip back stops at `-n`, short of the cursor. -/
theorem roundTrip_trunc_short_first {c : Config} {n : Int} {cur : Nat} (ctr : List Byte) (hc : c.negSkipDiv = .trunc)
    (hcur : cur < c.blockSize) (hshort : 0 < -n ∧ -n < (cur : Int)) :
    skipTarget c (-n) (skipTarget c n ctr cur).1 (skipTarget c n ctr cur).2 ≠ (ctr, cur) := by
  have hlanding : skipLanding c.blockSize (-n) ctr 0 = (addn ctr 0, (-n).toNat) :=
    skipLanding_eq ctr (by omega) (by omega)
  rw [skipTarget_trunc_short ctr hc hcur hshort, skipTarget_eq_skipLanding ctr (by omega) (.inr (by omega)), hlanding]
  intro heq
  have hback : (-n).toNat = cur := congrArg Prod.snd heq
  omega

/-- Under TRUNC the exception at the skip back leaves cursor 0; but from cursor 0 the skip by `n` lands on `n`,
not past it. -/
theorem roundTrip_trunc_short_second {c : Config} {n : Int} {cur : Nat} (ctr : List Byte) (hc : c.negSkipDiv = .trunc)
    (hcur : cur < c.blockSize) (hshort : 0 < n ∧ n < ((skipTarget c n ctr cur).2 : Int)) :
    skipTarget c (-n) (skipTarget c n ctr cur).1 (skipTarget c n ctr cur).2 ≠ (ctr, cur) := by
  have hlt := skipTarget_cur_lt c n ctr cur (by omega)
  rw [skipTarget_trunc_short _ hc hlt (by omega)]
  intro heq
  have hzero : cur = 0 := (congrArg Prod.snd heq).symm
  subst hzero
  have hlanding := skipLanding_cur n ctr 0 hcur
  rw [← skipTarget_eq_skipLanding ctr hcur (.inr (by omega)), Nat.cast_zero, zero_add,
    Int.emod_eq_of_lt (by omega) (by omega)] at hlanding
  omega

/-- Settles O20. -/
theorem skipRoundTrip : Obligations.SkipRoundTrip := by
  refine ⟨fun c n ctr cur hc _ hcur => ?_, fun c n ctr cur hc _ hcur hshort => ?_, fun c ctr hc hbs _ => ?_⟩
  · rw [skipTarget_eq_skipLanding _ (by omega) (.inl hc), skipTarget_eq_skipLanding _ (by omega) (.inl hc),
      skipLanding_neg_skipLanding n ctr hcur]
  · obtain hfirst | hsecond := hshort
    · exact roundTrip_trunc_short_first ctr hc hcur hfirst
    · exact roundTrip_trunc_short_second ctr hc hcur hsecond
  · have hlanding : skipTarget c 3 ctr 2 = (addn ctr 0, 5) :=
      (skipTarget_eq_skipLanding ctr (by omega) (.inr (by omega))).trans (skipLanding_eq ctr (by omega) (by omega))
    rw [hlanding, skipTarget_trunc_short _ hc (by omega) (by omega)]

end Sys2Proof.Machine
end

section
/-! PROOF. RESET and INIT (41_init_reset.md): what each ends in for each answer of the collaborator, and that both leave an
engine at logical position 0 (R137). -/

namespace Sys2Proof.Machine

/-! ### What each part does, for each answer of the collaborator -/

theorem callInit_of_answer {k : KeyToken} {s : State} (h : initFailure s.cfg k s.freeCount = none) :
    callInit k s = .ok () ((s.noteCall (.init true k)).setKey k) := by
  rw [callInit, h]

theorem callInit_of_failure {k : KeyToken} {s : State} {v : CollabErrVal}
    (h : initFailure s.cfg k s.freeCount = some v) :
    callInit k s = raiseCollab v ((s.noteCall (.init true k)).loseKey) := by
  rw [callInit, h]

theorem callReset_of_answer {s : State} (h : resetFailure s.cfg s.freeCount = none) :
    callReset s = .ok () (s.noteCall .reset).clearBuffering := by
  rw [callReset, h]

theorem callReset_of_failure {s : State} {v : CollabErrVal} (h : resetFailure s.cfg s.freeCount = some v) :
    callReset s = raiseCollab v (s.noteCall .reset) := by
  rw [callReset, h]

theorem resetBody_of_iv {s : State} {iv : List Byte} (hiv : s.iv = .val iv) :
    resetBody s = (callReset (s.setCtr iv)).bind fun _ s1 => .ok () (s1.setCur 0) := by
  rw [resetBody, hiv, readReg_val]

theorem resetBody_of_answer {s : State} {iv : List Byte} (hiv : s.iv = .val iv)
    (h : resetFailure s.cfg s.freeCount = none) :
    resetBody s = .ok () ((((s.setCtr iv).noteCall .reset).clearBuffering).setCur 0) := by
  rw [resetBody_of_iv hiv, callReset_of_answer (s := s.setCtr iv) h, Res.bind_ok]

theorem resetBody_of_failure {s : State} {iv : List Byte} {v : CollabErrVal} (hiv : s.iv = .val iv)
    (h : resetFailure s.cfg s.freeCount = some v) :
    resetBody s = raiseCollab v ((s.setCtr iv).noteCall .reset) := by
  rw [resetBody_of_iv hiv, callReset_of_failure (s := s.setCtr iv) h, raiseCollab_bind]

theorem resetAfterInit_of_initDone {s : State} {iv : List Byte} (hiv : s.iv = .val iv) (hdone : s.initDone = true) :
    resetAfterInit s = resetBody s := by
  rw [resetAfterInit, hiv, readReg_val, if_pos hdone]

theorem resetAfterInit_of_uninit {s : State} (hiv : s.iv = .uninit) : resetAfterInit s = .stop (.uninitRead .iv) := by
  rw [resetAfterInit, hiv, readReg_uninit]

/-- With `K = 0` no `CallInit` is made (R132). -/
theorem initBody_false (s : State) :
    initBody false s = (resetBody (s.setIv s.chan.iv)).bind fun _ s3 => .ok () s3.setInitDone := rfl

theorem initBody_true_of_answer {s : State} (h : initFailure s.cfg s.chan.key s.freeCount = none) :
    initBody true s =
      (resetBody (((s.setIv s.chan.iv).noteCall (.init true s.chan.key)).setKey s.chan.key)).bind
        fun _ s3 => .ok () s3.setInitDone := by
  rw [initBody, if_pos rfl, callInit_of_answer (s := s.setIv s.chan.iv) h, Res.bind_ok]

theorem initBody_true_of_failure {s : State} {v : CollabErrVal}
    (h : initFailure s.cfg s.chan.key s.freeCount = some v) :
    initBody true s = raiseCollab v (((s.setIv s.chan.iv).noteCall (.init true s.chan.key)).loseKey) := by
  rw [initBody, if_pos rfl, callInit_of_failure (s := s.setIv s.chan.iv) h, raiseCollab_bind]

/-! ### What the commands do -/

theorem finish_raiseCollab (v : CollabErrVal) (s : State) :
    finish (raiseCollab v s) = .next ((s.markCollab v).setErr .collab) := rfl

/-- The last part of INIT, from the state `u` that the IV copy and the key forward reach (R130, R135). -/
theorem finish_initTail_of_answer {u : State} {iv : List Byte} (hiv : u.iv = .val iv)
    (h : resetFailure u.cfg u.freeCount = none) :
    finish ((resetBody u).bind fun _ s3 => .ok () s3.setInitDone) =
      .next ((((((u.setCtr iv).noteCall .reset).clearBuffering).setCur 0).setInitDone).setErr .ok) := by
  rw [resetBody_of_answer hiv h, Res.bind_ok, finish_ok]

theorem finish_initTail_of_failure {u : State} {iv : List Byte} {v : CollabErrVal} (hiv : u.iv = .val iv)
    (h : resetFailure u.cfg u.freeCount = some v) :
    finish ((resetBody u).bind fun _ s3 => .ok () s3.setInitDone) =
      .next ((((u.setCtr iv).noteCall .reset).markCollab v).setErr .collab) := by
  rw [resetBody_of_failure hiv h, raiseCollab_bind, finish_raiseCollab]

theorem badIv_iff {v : Bool} {ch : Channels} {bs : Nat} : badIv v ch bs = true ↔ v = false ∨ ch.iv.length ≠ bs := by
  simp [badIv]

theorem exec_init_of_badIv {k v : Bool} {s : State} (h : v = false ∨ s.chan.iv.length ≠ s.cfg.blockSize) :
    exec (.init k v) s = .next (s.setErr .config) :=
  if_pos (badIv_iff.mpr h)

theorem exec_init_of_ivLength {k : Bool} {s : State} (h : s.chan.iv.length = s.cfg.blockSize) :
    exec (.init k true) s = finish (initBody k s) :=
  if_neg fun hbad => (badIv_iff.mp hbad).elim Bool.noConfusion fun hne => hne h

theorem exec_reset_of_initDone {s : State} {iv : List Byte} (hiv : s.iv = .val iv) (hdone : s.initDone = true) :
    exec .reset s = finish (resetBody s) :=
  congrArg finish (resetAfterInit_of_initDone hiv hdone)

/-- The `CallInit` of INIT fails: only `IV` is written before it (R135). -/
theorem exec_init_of_initFailure {s : State} {v : CollabErrVal} (hlen : s.chan.iv.length = s.cfg.blockSize)
    (h : initFailure s.cfg s.chan.key s.freeCount = some v) :
    exec (.init true true) s =
      .next (((((s.setIv s.chan.iv).noteCall (.init true s.chan.key)).loseKey).markCollab v).setErr .collab) := by
  rw [exec_init_of_ivLength hlen, initBody_true_of_failure h, finish_raiseCollab]

/-- The `CallReset` of INIT with `K = 0` fails: `IV` and `CTR` are written before it (R135). -/
theorem exec_init_false_of_resetFailure {s : State} {v : CollabErrVal} (hlen : s.chan.iv.length = s.cfg.blockSize)
    (h : resetFailure s.cfg s.freeCount = some v) :
    exec (.init false true) s =
      .next (((((s.setIv s.chan.iv).setCtr s.chan.iv).noteCall .reset).markCollab v).setErr .collab) := by
  rw [exec_init_of_ivLength hlen, initBody_false]
  exact finish_initTail_of_failure rfl h

/-- The `CallReset` of INIT with `K = 1` fails: the key is forwarded before it too (R135). -/
theorem exec_init_true_of_resetFailure {s : State} {v : CollabErrVal} (hlen : s.chan.iv.length = s.cfg.blockSize)
    (hinit : initFailure s.cfg s.chan.key s.freeCount = none)
    (h : resetFailure s.cfg (s.freeCount + 1) = some v) :
    exec (.init true true) s =
      .next ((((((s.setIv s.chan.iv).noteCall (.init true s.chan.key)).setKey s.chan.key).setCtr
        s.chan.iv).noteCall .reset).markCollab v |>.setErr .collab) := by
  rw [exec_init_of_ivLength hlen, initBody_true_of_answer hinit]
  exact finish_initTail_of_failure rfl h

theorem exec_getpos_of_written {s : State} {iv ctr : List Byte} {cur : Nat} (hiv : s.iv = .val iv)
    (hctr : s.ctr = .val ctr) (hcur : s.cur = .val cur) :
    exec .getpos s = .next ((s.setResult
      (positionResult (window s.cfg.posWindowBytes (diff ctr iv)) s.cfg.blockSize cur)).setErr .ok) := by
  rw [exec, execGetpos, hctr, readReg_val, hiv, readReg_val, hcur, readReg_val, finish_ok]

/-! ### Logical position 0 (R137) -/

/-- Where RESET and INIT leave the engine: `CTR = IV` and `CUR = 0` (R130, R136). -/
def State.AtStart (s : State) (iv : List Byte) : Prop := s.iv = .val iv ∧ s.ctr = .val iv ∧ s.cur = .val 0

theorem resetBody_atStart (s : State) :
    (resetBody s).Ensures (fun _ t => ∃ iv, t.AtStart iv) (fun e _ => e = .collab) := by
  rcases resetBody_cases s with ⟨_, e⟩ | ⟨iv, hiv, _, e⟩ | ⟨iv, v, _, _, e⟩ <;> rw [e]
  · trivial
  · exact ⟨iv, hiv, rfl, rfl⟩
  · rfl

theorem resetAfterInit_atStart (s : State) :
    (resetAfterInit s).Ensures (fun _ t => ∃ iv, t.AtStart iv) (fun e _ => e = .collab) := by
  rcases resetAfterInit_cases s with ⟨_, e⟩ | ⟨_, _, _, e⟩ | ⟨_, e⟩ <;> rw [e]
  · trivial
  · trivial
  · exact resetBody_atStart s

theorem callInit_raises_collab (k : KeyToken) (s : State) :
    (callInit k s).Ensures (fun _ _ => True) (fun e _ => e = .collab) := by
  rcases callInit_cases k s with ⟨_, e⟩ | ⟨v, _, e⟩ <;> rw [e]
  · trivial
  · rfl

theorem initBody_atStart (k : Bool) (s : State) :
    (initBody k s).Ensures (fun _ t => ∃ iv, t.AtStart iv) (fun e _ => e = .collab) := by
  have hkey : (if k then callInit s.chan.key (s.setIv s.chan.iv) else .ok () (s.setIv s.chan.iv)).Ensures
      (fun _ _ => True) (fun e _ => e = .collab) := by
    split
    · exact callInit_raises_collab _ _
    · trivial
  exact hkey.bind fun _ s2 _ => (resetBody_atStart s2).bind fun _ s3 h3 => h3

/-- A command whose only error is CollaboratorError completed, if it left `STATUS.ERR = 0` (R190). -/
theorem finish_atStart {r : Res Unit} {t : State}
    (hr : r.Ensures (fun _ u => ∃ iv, u.AtStart iv) (fun e _ => e = .collab))
    (h : finish r = .next t) (herr : t.err = 0) : ∃ iv, t.AtStart iv := by
  rcases finish_next_of_ensures hr h with ⟨u, hu, rfl⟩ | ⟨_, u, rfl, rfl⟩
  · exact hu
  · exact absurd herr (by decide : errCode .collab ≠ 0)

theorem exec_atStart {i : Instr} {s t : State} (hi : i = .reset ∨ ∃ k v, i = .init k v) (h : exec i s = .next t)
    (herr : t.err = 0) : ∃ iv, t.AtStart iv := by
  rcases hi with rfl | ⟨k, v, rfl⟩
  · exact finish_atStart (resetAfterInit_atStart s) h herr
  · rcases execInit_cases k v s with ⟨_, e⟩ | ⟨_, e⟩
    · cases e.symm.trans h
      exact absurd herr (by decide : errCode .config ≠ 0)
    · exact finish_atStart (initBody_atStart k s) (e.symm.trans h) herr

theorem be_diff_self (a : List Byte) : be (diff a a) = 0 := by
  have hval : (be (diff a a) : Int) = 0 := by rw [diff_eq_bytesOf rfl, be_bytesOf, sub_self, Int.zero_emod]
  exact_mod_cast hval

theorem logicalPosition_atStart (bs : Nat) (iv : List Byte) : logicalPosition bs iv iv 0 = 0 := by
  simp [logicalPosition]

theorem positionResult_atStart (n bs : Nat) (iv : List Byte) : positionResult (window n (diff iv iv)) bs 0 = 0 := by
  simp [positionResult, window, be_diff_self]

/-- Settles O41: a command that leaves `STATUS.ERR = 0` ran its RESET body to the end, and GETPOS computes 0 there. -/
theorem resetAndInitGoToZero : Obligations.ResetAndInitGoToZero := by
  intro s t i _ hi h herr
  obtain ⟨iv, hiv, hctr, hcur⟩ := exec_atStart hi h herr
  refine ⟨iv, _, hiv, hctr, hcur, logicalPosition_atStart _ iv, exec_getpos_of_written hiv hctr hcur, ?_⟩
  exact congrArg Reg.val (positionResult_atStart _ _ iv)

/-! ### The statements about one command -/

/-- Settles O21, by the three ways RESET ends. -/
theorem resetCommand : Obligations.ResetCommand := by
  refine fun s => ⟨fun iv hiv hdone hanswer => ?_,
    fun iv v hiv hdone hfail => ⟨Config.freeBuffering s.freeCount, ?_⟩, fun hiv => ?_⟩
  · rw [exec_reset_of_initDone hiv hdone, resetBody_of_answer hiv hanswer]
    rfl
  · rw [exec_reset_of_initDone hiv hdone, resetBody_of_failure hiv hfail]
    rfl
  · exact congrArg finish (resetAfterInit_of_uninit hiv)

/-- Settles O22: the checks stand before every effect. -/
theorem initRejectsBadIv : Obligations.InitRejectsBadIv := fun _ _ _ hbad => exec_init_of_badIv hbad

/-- Settles O23: the RESET body completes, from the state of the IV copy or of the key forward. -/
theorem initCompletes : Obligations.InitCompletes := by
  refine fun s hlen => ⟨fun hreset => ?_, fun hinit hreset => ?_⟩
  · rw [exec_init_of_ivLength hlen, initBody_false]
    exact finish_initTail_of_answer rfl hreset
  · rw [exec_init_of_ivLength hlen, initBody_true_of_answer hinit]
    exact finish_initTail_of_answer rfl hreset

/-- Settles O24, by the state at the failing call. -/
theorem initAbortsAtFailingCall : Obligations.InitAbortsAtFailingCall := by
  refine fun s hlen => ⟨fun v hinit => ⟨_, exec_init_of_initFailure hlen hinit, ?_⟩,
    fun v hreset => ⟨_, exec_init_false_of_resetFailure hlen hreset, ?_⟩,
    fun v hinit hreset => ⟨_, exec_init_true_of_resetFailure hlen hinit hreset, ?_⟩⟩
  · exact ⟨rfl, rfl, rfl, rfl, rfl, rfl, rfl, rfl, rfl, rfl⟩
  · exact ⟨rfl, rfl, rfl, rfl, rfl, rfl, rfl, rfl, rfl, rfl, rfl⟩
  · exact ⟨rfl, rfl, rfl, rfl, rfl, rfl, rfl, rfl, rfl, rfl, rfl⟩

end Sys2Proof.Machine
end


section
/-! PROOF. XBYTE (42_transform.md R145 to R148): BYTE_BODY in closed form, and the byte it gives at a logical position. -/

namespace Sys2Proof.Machine

/-! ### BYTE_BODY for each answer of the collaborator (R118 to R120, R145) -/

/-- The state after the cursor advance from `CTR = ctr` and `CUR = c` (R120). -/
def State.advanced (ctr : List Byte) (c : Nat) (s : State) : State :=
  (s.setCur (if c + 1 = s.cfg.blockSize then 0 else c + 1)).setCtr (if c + 1 = s.cfg.blockSize then inc ctr else ctr)

theorem State.setCtr_of_ctr {s : State} {ctr : List Byte} (hctr : s.ctr = .val ctr) : s.setCtr ctr = s := by
  rw [State.setCtr, ← hctr]

theorem advance_eq_advanced {s : State} {ctr : List Byte} {c : Nat} (hctr : s.ctr = .val ctr) (hcur : s.cur = .val c) :
    advance s = .ok () (s.advanced ctr c) := by
  rw [advance, hcur, readReg_val, State.advanced]
  by_cases hwrap : c + 1 = s.cfg.blockSize
  · simp only [if_pos hwrap, hctr, readReg_val]
  · simp only [if_neg hwrap, State.setCtr_of_ctr (s := s.setCur (c + 1)) hctr]

theorem xorByte_of_ks {s : State} {ks : List Byte} {c : Nat} {x : Byte} (b : Byte) (hks : s.ks = .val ks)
    (hcur : s.cur = .val c) (hx : ks[c]? = some x) : xorByte b s = .ok (x ^^^ b) s := by
  simp [xorByte, hks, hcur, hx]

theorem ksload_of_answer {s : State} {ctr blk : List Byte} {k : KeyToken} (hctr : s.ctr = .val ctr)
    (hkey : s.key = .token k) (hblk : eKey s.cfg k ctr = .block blk) :
    ksload s = .ok () ((s.noteCall (.process ctr)).setKs blk) := by
  simp [ksload, hctr, hkey, hblk]

theorem ksload_of_failure {s : State} {ctr : List Byte} {k : KeyToken} {v : CollabErrVal} (hctr : s.ctr = .val ctr)
    (hkey : s.key = .token k) (hfail : eKey s.cfg k ctr = .failed v) :
    ksload s = raiseCollab v (s.noteCall (.process ctr)).loseKs := by
  simp [ksload, hctr, hkey, hfail]

/-- BYTE_BODY inside a block makes no call (R146). -/
theorem byteBody_of_loaded {s : State} {ctr ks : List Byte} {c : Nat} {x : Byte} (b : Byte) (hctr : s.ctr = .val ctr)
    (hcur : s.cur = .val c) (hc : c ≠ 0) (hks : s.ks = .val ks) (hx : ks[c]? = some x) :
    byteBody b s = .ok (x ^^^ b) (s.advanced ctr c) := by
  rw [byteBody, hcur, readReg_val, if_neg hc, Res.bind_ok, xorByte_of_ks b hks hcur hx, Res.bind_ok,
    advance_eq_advanced hctr hcur, Res.bind_ok]

/-- BYTE_BODY at a block's first byte loads the block, whatever `KS` holds (R146). -/
theorem byteBody_of_answer {s : State} {ctr blk : List Byte} {k : KeyToken} {x : Byte} (b : Byte)
    (hctr : s.ctr = .val ctr) (hcur : s.cur = .val 0) (hkey : s.key = .token k) (hblk : eKey s.cfg k ctr = .block blk)
    (hx : blk[0]? = some x) :
    byteBody b s = .ok (x ^^^ b) (((s.noteCall (.process ctr)).setKs blk).advanced ctr 0) := by
  rw [byteBody, hcur, readReg_val, if_pos rfl, ksload_of_answer hctr hkey hblk, Res.bind_ok,
    xorByte_of_ks (s := (s.noteCall (.process ctr)).setKs blk) b rfl hcur hx, Res.bind_ok,
    advance_eq_advanced (s := (s.noteCall (.process ctr)).setKs blk) hctr hcur, Res.bind_ok]

theorem byteBody_of_failure {s : State} {ctr : List Byte} {k : KeyToken} {v : CollabErrVal} (b : Byte)
    (hctr : s.ctr = .val ctr) (hcur : s.cur = .val 0) (hkey : s.key = .token k) (hfail : eKey s.cfg k ctr = .failed v) :
    byteBody b s = raiseCollab v (s.noteCall (.process ctr)).loseKs := by
  rw [byteBody, hcur, readReg_val, if_pos rfl, ksload_of_failure hctr hkey hfail, raiseCollab_bind]

/-! ### XBYTE completes -/

theorem exec_xbyte_of_ok {s t : State} {b o : Byte} (h : byteBody b s = .ok o t) :
    exec (.xbyte b) s = .next ((t.setResult (byteResult o)).setErr .ok) := by
  rw [exec, execXbyte, h, Res.bind_ok, finish_ok]

theorem exec_xbyte_of_raiseCollab {s u : State} {b : Byte} {v : CollabErrVal} (h : byteBody b s = raiseCollab v u) :
    exec (.xbyte b) s = .next ((u.markCollab v).setErr .collab) := by
  rw [exec, execXbyte, h, raiseCollab_bind, finish_raiseCollab]

/-- Settles O25: at `CUR = 0` the byte is XORed after the load, above it with the block in `KS`. -/
theorem xbyteCompletes : Obligations.XbyteCompletes := by
  refine fun s data ctr b c x hctr hcur hx => ⟨fun h0 k hkey hblk => ⟨Config.freeBuffering s.freeCount, ?_⟩,
    fun hpos hks => ?_⟩
  · subst h0
    rw [exec_xbyte_of_ok (byteBody_of_answer data hctr hcur hkey hblk hx)]
    simp only [State.advanced, Nat.zero_add]
    rfl
  · rw [exec_xbyte_of_ok (byteBody_of_loaded data hctr hcur hpos.ne' hks hx)]
    rfl

end Sys2Proof.Machine
end


section
/-! PROOF. The byte at a logical position (42_transform.md R147, R148; 20_memory.md R62): BYTE_BODY consumes the keystream byte
of the position it starts at and moves on by one. -/

namespace Sys2Proof.Machine

/-! ### The keystream from a counter and a cursor on -/

/-- `i` places after the position of `CTR = ctr`, `CUR = c` the counter has moved by the whole blocks in `c + i` (R62). -/
theorem bytesOf_logicalPosition_add {bs : Nat} (iv : List Byte) {ctr : List Byte} (c i : Nat) (hbs : 1 ≤ bs)
    (hctr : ctr.length = bs) :
    bytesOf bs ((be iv : Int) + ((logicalPosition bs iv ctr c + i) / bs : Nat)) = addn ctr ((c + i) / bs : Nat) := by
  have hnonneg := Int.emod_nonneg ((be ctr : Int) - be iv) (by exact_mod_cast (counterSpace_pos bs).ne' :
    (counterSpace bs : Int) ≠ 0)
  rw [logicalPosition, Nat.add_assoc, Nat.add_comm, Nat.add_mul_div_right _ _ hbs, addn_eq_bytesOf, hctr]
  refine bytesOf_congr (Int.modEq_iff_dvd.mpr ⟨(be ctr - be iv) / counterSpace bs, ?_⟩)
  have hsplit := Int.emod_add_mul_ediv ((be ctr : Int) - be iv) (counterSpace bs)
  rw [Nat.cast_add, Int.toNat_of_nonneg hnonneg]
  linear_combination -hsplit

theorem logicalPosition_add_mod (bs : Nat) (iv ctr : List Byte) (c i : Nat) :
    (logicalPosition bs iv ctr c + i) % bs = (c + i) % bs := by
  rw [logicalPosition, Nat.add_assoc, Nat.add_comm, Nat.add_mul_mod_self_right]

/-- The logical position `i` places after that of `CTR = ctr`, `CUR = c` (R39, R123). -/
theorem logicalPosition_add {bs : Nat} (iv : List Byte) {ctr : List Byte} {c : Nat} (i : Nat) (hctr : ctr.length = bs)
    (hc : c < bs) :
    logicalPosition bs iv (addn ctr ((c + i) / bs : Nat)) ((c + i) % bs) =
      (logicalPosition bs iv ctr c + i) % positionSpace bs := by
  have hland : skipLanding bs i ctr c = (addn ctr ((c + i) / bs : Nat), (c + i) % bs) :=
    skipLanding_eq ctr (Nat.mod_lt _ (by omega)) (by exact_mod_cast (Nat.mod_add_div (c + i) bs).symm)
  have hmoved := logicalPosition_skipLanding (i : Int) iv hctr hc
  rw [hland] at hmoved
  exact_mod_cast hmoved

section
variable {cfg : Config} {k : KeyToken} {ctr : List Byte}

theorem keystreamByte_of_block (iv : List Byte) {blk : List Byte} (c i : Nat) (hbs : 1 ≤ cfg.blockSize)
    (hctr : ctr.length = cfg.blockSize) (h : eKey cfg k (addn ctr ((c + i) / cfg.blockSize : Nat)) = .block blk) :
    keystreamByte cfg k iv (logicalPosition cfg.blockSize iv ctr c + i) = blk[(c + i) % cfg.blockSize]? := by
  rw [keystreamByte, bytesOf_logicalPosition_add iv c i hbs hctr, logicalPosition_add_mod, h]

/-- A block of `BS` bytes has a byte at every index that the position can ask for. -/
theorem exists_keystreamByte_of_block (iv : List Byte) {blk : List Byte} (c i : Nat) (hbs : 1 ≤ cfg.blockSize)
    (hctr : ctr.length = cfg.blockSize) (h : eKey cfg k (addn ctr ((c + i) / cfg.blockSize : Nat)) = .block blk) :
    ∃ x, keystreamByte cfg k iv (logicalPosition cfg.blockSize iv ctr c + i) = some x ∧
      blk[(c + i) % cfg.blockSize]? = some x := by
  have hlen : blk.length = cfg.blockSize := eKey_length ((addn_length _ _).trans hctr) h
  have hlt : (c + i) % cfg.blockSize < blk.length := by rw [hlen]; exact Nat.mod_lt _ hbs
  have hx := List.getElem?_eq_getElem hlt
  exact ⟨_, (keystreamByte_of_block iv c i hbs hctr h).trans hx, hx⟩

/-- Where the keystream has a byte the collaborator answers with its block. -/
theorem block_of_keystreamByte {iv : List Byte} {c i : Nat} {x : Byte} (hbs : 1 ≤ cfg.blockSize)
    (hctr : ctr.length = cfg.blockSize)
    (h : keystreamByte cfg k iv (logicalPosition cfg.blockSize iv ctr c + i) = some x) :
    ∃ blk, eKey cfg k (addn ctr ((c + i) / cfg.blockSize : Nat)) = .block blk ∧
      blk[(c + i) % cfg.blockSize]? = some x := by
  cases hk : eKey cfg k (addn ctr ((c + i) / cfg.blockSize : Nat)) with
  | block blk => exact ⟨blk, rfl, (keystreamByte_of_block iv c i hbs hctr hk).symm.trans h⟩
  | failed v =>
    rw [keystreamByte, bytesOf_logicalPosition_add iv c i hbs hctr, hk] at h
    cases h

end

/-- The keystream depends on the collaborator, `BS`, the key, the IV and the position alone (R147). -/
theorem keystreamByte_congr {c d : Config} (k : KeyToken) (iv : List Byte) (p : Nat) (h1 : c.collaborator = d.collaborator)
    (h2 : c.blockSize = d.blockSize) : keystreamByte c k iv p = keystreamByte d k iv p := by
  simp only [keystreamByte, h2, eKey_congr k _ h1 h2]

/-! ### An engine `i` bytes past a position -/

/-- An initialised engine with no fault recorded that stands `i` bytes past `CTR = ctr`, `CUR = c` (R120). It is `State.Live`
without what that says of `STATUS.ERR` and OUT, so it holds inside a stream command too. -/
structure State.StandsPast (s : State) (k : KeyToken) (iv ctr : List Byte) (c i : Nat) : Prop where
  sound : s.Sound
  trusted : s.trusted
  key : s.key = .token k
  iv : s.iv = .val iv
  ctr : s.ctr = .val (addn ctr ((c + i) / s.cfg.blockSize : Nat))
  cur : s.cur = .val ((c + i) % s.cfg.blockSize)

section
variable {s : State} {k : KeyToken} {iv ctr : List Byte} {c i : Nat}

theorem State.StandsPast.ctr_length (h : s.StandsPast k iv ctr c i) : ctr.length = s.cfg.blockSize :=
  (addn_length _ _).symm.trans (h.sound.ctr_length _ h.ctr)

theorem State.Live.cur_lt (h : s.Live k iv ctr c) : c < s.cfg.blockSize := h.inv.cur_lt c h.cur

theorem State.Live.standsPast (h : s.Live k iv ctr c) : s.StandsPast k iv ctr c 0 where
  sound := (inv_iff.mp h.inv).1
  trusted := h.trusted
  key := h.key
  iv := h.iv
  ctr := by rw [Nat.add_zero, Nat.div_eq_of_lt h.cur_lt, Nat.cast_zero, addn_zero, h.ctr]
  cur := by rw [Nat.add_zero, Nat.mod_eq_of_lt h.cur_lt, h.cur]

/-- A command that completes writes `RESULT` and `STATUS.ERR`, which no position depends on. -/
theorem State.StandsPast.completed (w : OpWord) (h : s.StandsPast k iv ctr c i) :
    ((s.setResult w).setErr .ok).StandsPast k iv ctr c i :=
  ⟨{ h.sound with }, h.trusted, h.key, h.iv, h.ctr, h.cur⟩

/-- Inside a block `KS` is the block of the counter (R38). -/
theorem State.StandsPast.loaded (h : s.StandsPast k iv ctr c i) (hc : (c + i) % s.cfg.blockSize ≠ 0) :
    ∃ blk, s.ks = .val blk ∧ eKey s.cfg k (addn ctr ((c + i) / s.cfg.blockSize : Nat)) = .block blk := by
  obtain ⟨k', a, blk, hkey, hctr, hks, hblk⟩ := h.sound.ks_valid h.trusted _ h.cur (Nat.pos_of_ne_zero hc)
  cases h.key.symm.trans hkey
  cases h.ctr.symm.trans hctr
  exact ⟨blk, hks, hblk⟩

end

/-! ### BYTE_BODY at a position -/

/-- The calls that the byte `i` places past `CTR = ctr`, `CUR = c` costs: one where it is a block's first byte (R146). -/
def loadAt (bs : Nat) (ctr : List Byte) (c i : Nat) : List CollabCall :=
  if (c + i) % bs = 0 then [.process (addn ctr ((c + i) / bs : Nat))] else []

/-- The quotient and the remainder by BS move on as the counter and the cursor do (R120). -/
theorem succ_div_mod {bs : Nat} (n : Nat) (hbs : 1 ≤ bs) :
    (n + 1) / bs = (if n % bs + 1 = bs then n / bs + 1 else n / bs) ∧
      (n + 1) % bs = if n % bs + 1 = bs then 0 else n % bs + 1 := by
  have hlt := Nat.mod_lt n hbs
  have hsplit := Nat.mod_add_div n bs
  refine (Nat.div_mod_unique hbs).mpr ?_
  split
  · rw [Nat.mul_add]; omega
  · omega

theorem advanced_registers {s : State} (ctr : List Byte) (c i : Nat) (hbs : 1 ≤ s.cfg.blockSize) :
    (s.advanced (addn ctr ((c + i) / s.cfg.blockSize : Nat)) ((c + i) % s.cfg.blockSize)).ctr =
        .val (addn ctr ((c + (i + 1)) / s.cfg.blockSize : Nat)) ∧
      (s.advanced (addn ctr ((c + i) / s.cfg.blockSize : Nat)) ((c + i) % s.cfg.blockSize)).cur =
        .val ((c + (i + 1)) % s.cfg.blockSize) := by
  obtain ⟨hdiv, hmod⟩ := succ_div_mod (c + i) hbs
  rw [← Nat.add_assoc, hdiv, hmod]
  refine ⟨?_, rfl⟩
  simp only [State.advanced, State.setCtr_ctr]
  split
  · rw [inc_eq_addn, addn_addn, Nat.cast_add, Nat.cast_one]
  · rfl

theorem byteBody_ok_keeps {b o : Byte} {s t : State} (hs : s.Sound) (hok : byteBody b s = .ok o t) :
    t.Sound ∧ s.PartFrame t := by
  have hsound := byteBody_sound b hs
  have hframe := byteBody_frame b s
  rw [hok] at hsound hframe
  exact ⟨hsound, hframe⟩

section
variable {s : State} {k : KeyToken} {iv ctr : List Byte} {c i : Nat}

/-- Where the keystream has a byte, BYTE_BODY XORs it with its input and moves on by one (R147). -/
theorem byteBody_of_keystreamByte (h : s.StandsPast k iv ctr c i) {x : Byte} (b : Byte)
    (hx : keystreamByte s.cfg k iv (logicalPosition s.cfg.blockSize iv ctr c + i) = some x) :
    ∃ t, byteBody b s = .ok (x ^^^ b) t ∧ t.StandsPast k iv ctr c (i + 1) ∧ s.PartFrame t ∧
      t.collabErr = s.collabErr ∧ t.calls = loadAt s.cfg.blockSize ctr c i ++ s.calls := by
  have hbs := h.sound.blockSize_pos
  obtain ⟨blk, hblk, hbyte⟩ := block_of_keystreamByte hbs h.ctr_length hx
  obtain ⟨hctr, hcur⟩ := advanced_registers ctr c i hbs
  by_cases hc : (c + i) % s.cfg.blockSize = 0
  · have hok := byteBody_of_answer b h.ctr (hc ▸ h.cur) h.key hblk (hc ▸ hbyte)
    obtain ⟨hsound, hframe⟩ := byteBody_ok_keeps h.sound hok
    rw [hc] at hctr hcur
    exact ⟨_, hok, ⟨hsound, h.trusted, h.key, h.iv, hctr, hcur⟩, hframe, rfl, by rw [loadAt, if_pos hc]; rfl⟩
  · obtain ⟨ks, hks, hks'⟩ := h.loaded hc
    cases hblk.symm.trans hks'
    have hok := byteBody_of_loaded b h.ctr h.cur hc hks hbyte
    obtain ⟨hsound, hframe⟩ := byteBody_ok_keeps h.sound hok
    exact ⟨_, hok, ⟨hsound, h.trusted, h.key, h.iv, hctr, hcur⟩, hframe, rfl, by rw [loadAt, if_neg hc]; rfl⟩

/-- In an initialised engine BYTE_BODY either finds a keystream byte or fails at the load (R145). -/
theorem keystreamByte_or_failure (h : s.StandsPast k iv ctr c i) (b : Byte) :
    (∃ x, keystreamByte s.cfg k iv (logicalPosition s.cfg.blockSize iv ctr c + i) = some x) ∨
      ∃ v u, byteBody b s = raiseCollab v u := by
  have hbs := h.sound.blockSize_pos
  cases hk : eKey s.cfg k (addn ctr ((c + i) / s.cfg.blockSize : Nat)) with
  | block blk =>
    obtain ⟨x, hx, -⟩ := exists_keystreamByte_of_block iv c i hbs h.ctr_length hk
    exact .inl ⟨x, hx⟩
  | failed v =>
    have hc : (c + i) % s.cfg.blockSize = 0 := by
      by_contra hne
      obtain ⟨blk, -, hblk⟩ := h.loaded hne
      cases hk.symm.trans hblk
    exact .inr ⟨v, _, byteBody_of_failure b h.ctr (hc ▸ h.cur) h.key hk⟩

end

/-! ### XBYTE at a position -/

/-- XBYTE where the keystream has a byte (R147). -/
theorem exec_xbyte_of_keystreamByte {s : State} {k : KeyToken} {iv ctr : List Byte} {c i : Nat}
    (h : s.StandsPast k iv ctr c i) {x : Byte} (b : Byte)
    (hx : keystreamByte s.cfg k iv (logicalPosition s.cfg.blockSize iv ctr c + i) = some x) :
    ∃ t, exec (.xbyte b) s = .next t ∧ t.StandsPast k iv ctr c (i + 1) ∧ t.cfg = s.cfg ∧ t.err = 0 ∧
      t.result = .val ((x ^^^ b).setWidth 64) := by
  obtain ⟨u, hok, hu, hframe, -, -⟩ := byteBody_of_keystreamByte h b hx
  obtain ⟨hcfg, -⟩ := hostSideKept_of_streamFrame hframe.regs
  exact ⟨_, exec_xbyte_of_ok hok, hu.completed _, hcfg, rfl, rfl⟩

/-- XBYTE either consumes a keystream byte or ends in a CollaboratorError (R145). -/
theorem exec_xbyte_cases {s : State} {k : KeyToken} {iv ctr : List Byte} {c : Nat} (h : s.Live k iv ctr c) (b : Byte) :
    (∃ x, keystreamByte s.cfg k iv (logicalPosition s.cfg.blockSize iv ctr c) = some x) ∨
      ∃ t, exec (.xbyte b) s = .next t ∧ t.faultMark = true ∧ t.err = 3 := by
  rcases keystreamByte_or_failure h.standsPast b with hx | ⟨v, u, hfail⟩
  · exact .inl hx
  · exact .inr ⟨_, exec_xbyte_of_raiseCollab hfail, rfl, rfl⟩

/-- Settles O27: a fault the command did not record is a load that did not fail. -/
theorem xbyteAtPosition : Obligations.XbyteAtPosition := by
  intro s k iv ctr c b t hlive hexec htrusted
  rcases exec_xbyte_cases hlive b with ⟨x, hx⟩ | ⟨u, hu, hfault, -⟩
  · obtain ⟨t', ht', hstands, hcfg, herr, hresult⟩ := exec_xbyte_of_keystreamByte hlive.standsPast b hx
    cases hexec.symm.trans ht'
    refine ⟨x, _, _, hx, hresult, herr, hstands.ctr, hstands.cur, ?_⟩
    rw [hcfg]
    exact logicalPosition_add iv 1 hlive.standsPast.ctr_length hlive.cur_lt
  · cases hexec.symm.trans hu
    exact Bool.noConfusion (hfault.symm.trans htrusted)

/-- A byte is read back from the word that it was extended to (R44). -/
theorem setWidth_byte_injective {a b : Byte} (h : a.setWidth 64 = b.setWidth 64) : a = b := by
  have hback := congrArg (BitVec.setWidth 8) h
  simpa using hback

/-- Settles O28: both engines consume the same keystream byte, and XOR with it undoes itself. -/
theorem xbyteInvolution : Obligations.XbyteInvolution := by
  intro s₁ s₂ k iv ctr₁ ctr₂ c₁ c₂ b o t₁ h₁ h₂ hbs hcollab hpos hexec herr hresult
  rcases exec_xbyte_cases h₁ b with ⟨x, hx⟩ | ⟨u, hu, -, hcode⟩
  · obtain ⟨t, ht, -, -, -, hout⟩ := exec_xbyte_of_keystreamByte h₁.standsPast b hx
    cases hexec.symm.trans ht
    have ho : o = x ^^^ b := setWidth_byte_injective (Reg.val.inj (hresult.symm.trans hout))
    rw [keystreamByte_congr k iv _ hcollab hbs, hpos] at hx
    obtain ⟨t₂, ht₂, -, -, herr₂, hout₂⟩ := exec_xbyte_of_keystreamByte h₂.standsPast o hx
    have hback : x ^^^ o = b := by rw [ho, ← BitVec.xor_assoc, BitVec.xor_self, BitVec.zero_xor]
    exact ⟨t₂, ht₂, herr₂, hback ▸ hout₂⟩
  · cases hexec.symm.trans hu
    exact absurd (herr.symm.trans hcode) (by decide)

end Sys2Proof.Machine
end


section
/-! PROOF. XBLOCK and XRANGE (42_transform.md R150 to R158): the loop XORs its bytes with the keystream from the position it
starts at, and calls the collaborator once for each byte that meets `CUR = 0`. -/

namespace Sys2Proof.Machine

/-! ### The stream of output bytes -/

/-- The bytes `l` XORed with the keystream from position `p` on (R62, R64); none where the collaborator fails on a block. -/
def keystreamXor (cfg : Config) (k : KeyToken) (iv : List Byte) : Nat → List Byte → Option (List Byte)
  | _, [] => some []
  | p, b :: l => (keystreamByte cfg k iv p).bind fun x => (keystreamXor cfg k iv (p + 1) l).map fun o => (x ^^^ b) :: o

section
variable {cfg : Config} {k : KeyToken} {iv : List Byte} {p : Nat}

theorem keystreamXor_cons {b : Byte} {l o : List Byte} (h : keystreamXor cfg k iv p (b :: l) = some o) :
    ∃ x o', keystreamByte cfg k iv p = some x ∧ keystreamXor cfg k iv (p + 1) l = some o' ∧ o = (x ^^^ b) :: o' := by
  obtain ⟨x, hx, h⟩ := Option.bind_eq_some_iff.mp h
  obtain ⟨o', ho', rfl⟩ := Option.map_eq_some_iff.mp h
  exact ⟨x, o', hx, ho', rfl⟩

theorem keystreamXor_append {l l' o : List Byte} (h : keystreamXor cfg k iv p (l ++ l') = some o) :
    ∃ o₁ o₂, keystreamXor cfg k iv p l = some o₁ ∧ keystreamXor cfg k iv (p + l.length) l' = some o₂ ∧ o = o₁ ++ o₂ := by
  induction l generalizing p o with
  | nil => exact ⟨[], o, rfl, h, rfl⟩
  | cons b l ih =>
    obtain ⟨x, o', hx, ho', rfl⟩ := keystreamXor_cons h
    obtain ⟨o₁, o₂, h₁, h₂, rfl⟩ := ih ho'
    refine ⟨(x ^^^ b) :: o₁, o₂, by simp [keystreamXor, hx, h₁], ?_, rfl⟩
    rw [List.length_cons, Nat.add_comm l.length, ← Nat.add_assoc]
    exact h₂

theorem exists_keystreamXor {l : List Byte}
    (h : ∀ j, j < l.length → ∃ x, keystreamByte cfg k iv (p + j) = some x) : ∃ o, keystreamXor cfg k iv p l = some o := by
  induction l generalizing p with
  | nil => exact ⟨[], rfl⟩
  | cons b l ih =>
    obtain ⟨x, hx⟩ := h 0 (by simp)
    obtain ⟨o, ho⟩ := ih (p := p + 1) fun j hj => by
      rw [Nat.add_assoc, Nat.add_comm 1]
      exact h (j + 1) (by simpa using hj)
    exact ⟨(x ^^^ b) :: o, by simp [keystreamXor, ho, show keystreamByte cfg k iv p = some x from hx]⟩

theorem keystreamXor_length {l o : List Byte} (h : keystreamXor cfg k iv p l = some o) : o.length = l.length := by
  induction l generalizing p o with
  | nil => cases h; rfl
  | cons b l ih =>
    obtain ⟨x, o', -, ho', rfl⟩ := keystreamXor_cons h
    simp [ih ho']

theorem keystreamXor_getElem? {l o : List Byte} (h : keystreamXor cfg k iv p l = some o) {i : Nat} (hi : i < l.length) :
    ∃ x y, l[i]? = some x ∧ keystreamByte cfg k iv (p + i) = some y ∧ o[i]? = some (y ^^^ x) := by
  induction l generalizing p o i with
  | nil => exact absurd hi (Nat.not_lt_zero i)
  | cons b l ih =>
    obtain ⟨y, o', hy, ho', rfl⟩ := keystreamXor_cons h
    cases i with
    | zero => exact ⟨b, y, rfl, hy, rfl⟩
    | succ i =>
      obtain ⟨x, z, hx, hz, hout⟩ := ih ho' (by simpa using hi)
      exact ⟨x, z, hx, by rw [Nat.add_comm i, ← Nat.add_assoc]; exact hz, hout⟩

/-- A collaborator that answers gives a keystream byte at every position. -/
theorem keystreamByte_of_answers (iv : List Byte) {ctr : List Byte} (c i : Nat) (hbs : 1 ≤ cfg.blockSize)
    (hctr : ctr.length = cfg.blockSize) (hans : collaboratorAnswers cfg k) :
    ∃ x, keystreamByte cfg k iv (logicalPosition cfg.blockSize iv ctr c + i) = some x := by
  obtain ⟨blk, hblk⟩ := hans _ ((addn_length ctr ((c + i) / cfg.blockSize : Nat)).trans hctr)
  obtain ⟨x, hx, -⟩ := exists_keystreamByte_of_block iv c i hbs hctr hblk
  exact ⟨x, hx⟩

end

/-- A stream that appended the XORed first `n` input bytes to OUT delivered what R150 and R156 ask for. -/
theorem deliveredFrom_of_keystreamXor {s t : State} {k : KeyToken} {iv o : List Byte} {p n : Nat}
    (hn : n ≤ s.chan.input.length) (ho : keystreamXor s.cfg k iv p (s.chan.input.take n) = some o)
    (hout : t.out = s.out ++ o) : deliveredFrom s t k iv p n := by
  have hlen : (s.chan.input.take n).length = n := List.length_take_of_le hn
  refine ⟨by rw [hout, List.length_append, keystreamXor_length ho, hlen], by simp [hout], fun i hi => ?_⟩
  obtain ⟨x, y, hx, hy, hxy⟩ := keystreamXor_getElem? ho (hlen.symm ▸ hi)
  rw [List.getElem?_take_of_lt hi] at hx
  exact ⟨x, y, hx, hy, by rw [hout, List.getElem?_append_right (Nat.le_add_right _ _), Nat.add_sub_cancel_left, hxy]⟩

/-! ### The loop -/

/-- The calls of a stream of `n` bytes from `i` places past `CTR = ctr`, `CUR = c` on, the latest first (R158). -/
def streamLoads (bs : Nat) (ctr : List Byte) (c : Nat) : Nat → Nat → List CollabCall
  | _, 0 => []
  | i, n + 1 => streamLoads bs ctr c (i + 1) n ++ loadAt bs ctr c i

theorem State.StandsPast.deliver {s : State} {k : KeyToken} {iv ctr : List Byte} {c i : Nat}
    (h : s.StandsPast k iv ctr c i) (o : Byte) : (s.deliver o).StandsPast k iv ctr c i :=
  ⟨{ h.sound with }, h.trusted, h.key, h.iv, h.ctr, h.cur⟩

/-- The loop completes where the keystream has all its bytes (R150, R156). -/
theorem transformBytes_of_keystreamXor {s : State} {k : KeyToken} {iv ctr : List Byte} {c i : Nat} {l o : List Byte}
    (h : s.StandsPast k iv ctr c i)
    (ho : keystreamXor s.cfg k iv (logicalPosition s.cfg.blockSize iv ctr c + i) l = some o) :
    ∃ t, transformBytes l s = .ok () t ∧ t.StandsPast k iv ctr c (i + l.length) ∧ t.cfg = s.cfg ∧ t.out = s.out ++ o ∧
      t.collabErr = s.collabErr ∧ t.calls = streamLoads s.cfg.blockSize ctr c i l.length ++ s.calls := by
  induction l generalizing s i o with
  | nil =>
    cases ho
    exact ⟨s, rfl, h, rfl, (List.append_nil _).symm, rfl, rfl⟩
  | cons b l ih =>
    obtain ⟨x, o', hx, ho', rfl⟩ := keystreamXor_cons ho
    obtain ⟨s₁, hok, hs₁, hframe, hcollab, hcalls⟩ := byteBody_of_keystreamByte h b hx
    obtain ⟨hcfg, -⟩ := hostSideKept_of_streamFrame hframe.regs
    have hout : s₁.out = s.out := hframe.out
    obtain ⟨t, ht, hstands, hcfg', hout', hcollab', hcalls'⟩ :=
      ih (s := s₁.deliver (x ^^^ b)) (i := i + 1) (o := o') (hs₁.deliver _) (by
        rw [State.deliver_cfg, hcfg, ← Nat.add_assoc]
        exact ho')
    refine ⟨t, by rw [transformBytes, hok, Res.bind_ok, ht], ?_, hcfg'.trans hcfg, ?_, hcollab'.trans hcollab, ?_⟩
    · rwa [List.length_cons, Nat.add_comm l.length, ← Nat.add_assoc]
    · rw [hout', State.deliver_out, hout, List.append_assoc, List.singleton_append]
    · rw [hcalls', State.deliver_calls, State.deliver_cfg, hcfg, hcalls, List.length_cons, streamLoads, List.append_assoc]

/-! ### The number of calls (R158) -/

theorem streamLoads_eq (bs : Nat) (ctr : List Byte) (c i n : Nat) :
    streamLoads bs ctr c i n = (((List.range' i n).filter fun j => (c + j) % bs = 0).map fun j =>
      CollabCall.process (addn ctr ((c + j) / bs : Nat))).reverse := by
  induction n generalizing i with
  | zero => rfl
  | succ n ih =>
    rw [streamLoads, ih, List.range'_succ, List.filter_cons, loadAt]
    by_cases h : (c + i) % bs = 0 <;> simp [h]

/-- From its start on, a stream makes one call for each byte that meets `CUR = 0` (R158). -/
theorem streamLoads_length (bs : Nat) (ctr : List Byte) (c n : Nat) :
    (streamLoads bs ctr c 0 n).length = ((List.range n).filter fun j => (c + j) % bs = 0).length := by
  rw [streamLoads_eq, List.length_reverse, List.length_map, List.range_eq_range']

theorem processCalls_streamLoads (bs : Nat) (ctr : List Byte) (c i n : Nat) :
    processCalls (streamLoads bs ctr c i n) = (streamLoads bs ctr c i n).length := by
  rw [processCalls, List.countP_eq_length, streamLoads_eq]
  intro a ha
  obtain ⟨j, -, rfl⟩ := List.mem_map.mp (List.mem_reverse.mp ha)
  rfl

theorem streamCalls_eq (bs c n : Nat) :
    streamCalls bs c n = Int.fdiv ((c : Int) + n - 1) bs - Int.fdiv ((c : Int) - 1) bs := by
  unfold streamCalls
  split
  next h => rw [h, Nat.cast_zero, add_zero, sub_self]
  next => rfl

/-- The quotient of `n - 1` by BS steps up exactly at the multiples of BS. -/
theorem fdiv_succ_sub_one {bs : Nat} (n : Nat) (hbs : 1 ≤ bs) :
    Int.fdiv n bs = Int.fdiv ((n : Int) - 1) bs + if n % bs = 0 then 1 else 0 := by
  have hpos : (0 : Int) < bs := by omega
  have hsplit : ((n % bs : Nat) : Int) + bs * (n / bs : Nat) = n := by exact_mod_cast Nat.mod_add_div n bs
  have hlt : n % bs < bs := Nat.mod_lt n hbs
  rw [Int.fdiv_eq_ediv_of_nonneg _ hpos.le, Int.fdiv_eq_ediv_of_nonneg _ hpos.le, ← Int.natCast_div]
  split
  next h =>
    obtain ⟨hdiv, -⟩ := (Int.ediv_emod_unique (a := n - 1) (r := bs - 1) (q := (n / bs : Nat) - 1) hpos).mpr
      ⟨by rw [← hsplit, h]; push_cast; ring, by omega, by omega⟩
    rw [hdiv, sub_add_cancel]
  next h =>
    obtain ⟨hdiv, -⟩ := (Int.ediv_emod_unique (a := n - 1) (r := (n % bs : Nat) - 1) (q := (n / bs : Nat)) hpos).mpr
      ⟨by linear_combination hsplit, by omega, by omega⟩
    rw [hdiv, add_zero]

theorem streamCalls_eq_length {bs : Nat} (c n : Nat) (hbs : 1 ≤ bs) :
    (((List.range n).filter fun j => (c + j) % bs = 0).length : Int) = streamCalls bs c n := by
  rw [streamCalls_eq]
  induction n with
  | zero => simp
  | succ n ih =>
    have hstep := fdiv_succ_sub_one (c + n) hbs
    rw [List.range_succ, List.filter_append, List.length_append, Nat.cast_add, ih]
    push_cast at hstep ⊢
    rw [show (c : Int) + (n + 1) - 1 = c + n by ring, hstep, sub_add_eq_add_sub]
    by_cases h : (c + n) % bs = 0 <;> simp [h]

end Sys2Proof.Machine
end


section
/-! PROOF. What XBLOCK and XRANGE do (42_transform.md R150 to R153, R156, R158), and that any chunking of a message gives the
same bytes (R159). -/

namespace Sys2Proof.Machine

/-! ### A stream command completes -/

theorem exec_streamCommand {cmd : Instr} {s : State} {n : Nat} {w : OpWord} (hcmd : streamCommand cmd s n w) :
    exec cmd s = finish (transformStream n w s) := by
  rcases hcmd with ⟨rfl, rfl, rfl⟩ | ⟨rfl, hopnd, rfl⟩
  · rfl
  · rw [exec, execXrange, hopnd, readReg_val, rangeCount]

theorem streamCommand_frame {cmd : Instr} {s t : State} {n : Nat} {w : OpWord} (hcmd : streamCommand cmd s n w)
    (h : exec cmd s = .next t) : s.EndFrame t := by
  refine (exec_frame ?_ h).1
  rcases hcmd with ⟨rfl, -⟩ | ⟨rfl, -⟩ <;> exact fun _ _ => Instr.noConfusion

section
variable {s : State} {k : KeyToken} {iv ctr : List Byte} {c i : Nat} {cmd : Instr} {n : Nat} {w : OpWord}

/-- With room on both channels a stream command is its loop and the write of `RESULT` (R150, R156). -/
theorem exec_streamCommand_of_room (hcmd : streamCommand cmd s n w) (h : s.StandsPast k iv ctr c i)
    (hin : n ≤ s.chan.input.length) (hcap : n ≤ s.chan.outCap) :
    exec cmd s =
      finish ((transformBytes (s.chan.input.take n) s).bind fun _ s1 => .ok () (s1.setResult w)) := by
  have hroom : shortChannel s.chan n = false := by simp [shortChannel, hin, hcap]
  rw [exec_streamCommand hcmd, transformStream, h.cur, readReg_val, h.ctr, readReg_val, hroom, if_neg Bool.false_ne_true]

theorem exec_streamCommand_of_keystreamXor {o : List Byte} (hcmd : streamCommand cmd s n w)
    (h : s.StandsPast k iv ctr c i) (hin : n ≤ s.chan.input.length) (hcap : n ≤ s.chan.outCap)
    (ho : keystreamXor s.cfg k iv (logicalPosition s.cfg.blockSize iv ctr c + i) (s.chan.input.take n) = some o) :
    ∃ t, exec cmd s = .next t ∧ t.StandsPast k iv ctr c (i + n) ∧ t.cfg = s.cfg ∧ t.out = s.out ++ o ∧
      t.result = .val w ∧ t.err = 0 ∧ t.collabErr = s.collabErr ∧
      t.calls = streamLoads s.cfg.blockSize ctr c i n ++ s.calls := by
  obtain ⟨u, hu, hstands, hcfg, hout, hcollab, hcalls⟩ := transformBytes_of_keystreamXor h ho
  rw [List.length_take_of_le hin] at hstands hcalls
  refine ⟨(u.setResult w).setErr .ok, ?_, hstands.completed w, hcfg, hout, rfl, rfl, hcollab, hcalls⟩
  rw [exec_streamCommand_of_room hcmd h hin hcap, hu, Res.bind_ok, finish_ok]

/-- In a live engine whose collaborator answers a stream command with room completes. -/
theorem exec_streamCommand_of_answers (hcmd : streamCommand cmd s n w) (h : s.Live k iv ctr c)
    (hans : collaboratorAnswers s.cfg k) (hin : n ≤ s.chan.input.length) (hcap : n ≤ s.chan.outCap) :
    ∃ t, exec cmd s = .next t ∧ streamFrame s t ∧
      deliveredFrom s t k iv (logicalPosition s.cfg.blockSize iv ctr c) n ∧
      t.ctr = .val (addn ctr ((c + n) / s.cfg.blockSize : Nat)) ∧ t.cur = .val ((c + n) % s.cfg.blockSize) ∧
      t.result = .val w ∧ t.err = 0 ∧ t.faultMark = s.faultMark ∧ t.collabErr = s.collabErr ∧
      t.calls = streamLoads s.cfg.blockSize ctr c 0 n ++ s.calls := by
  have hstart := h.standsPast
  obtain ⟨o, ho⟩ := exists_keystreamXor (l := s.chan.input.take n) fun j _ =>
    keystreamByte_of_answers iv c j h.inv.blockSize_pos hstart.ctr_length hans
  obtain ⟨t, ht, hend, hcfg, hout, hresult, herr, hcollab, hcalls⟩ :=
    exec_streamCommand_of_keystreamXor hcmd hstart hin hcap ho
  have hctr := hend.ctr
  have hcur := hend.cur
  rw [hcfg, Nat.zero_add] at hctr hcur
  exact ⟨t, ht, (streamCommand_frame hcmd ht).regs, deliveredFrom_of_keystreamXor hin ho hout, hctr, hcur, hresult, herr,
    hend.trusted.trans h.trusted.symm, hcollab, hcalls⟩

end

/-! ### XBLOCK and XRANGE complete -/

/-- A stream of BS bytes meets `CUR = 0` once: with its first byte, or with the first byte of the next block (R152). -/
theorem streamLoads_block {bs c : Nat} (ctr : List Byte) (hc : c < bs) :
    streamLoads bs ctr c 0 bs = [.process (if c = 0 then ctr else inc ctr)] := by
  have hbs : 1 ≤ bs := by omega
  have hcount : (streamLoads bs ctr c 0 bs).length = 1 := by
    have hcalls := streamCalls_eq_length c bs hbs
    have hpos : (bs : Int) ≠ 0 := by omega
    rw [← streamLoads_length bs ctr, streamCalls_eq, show (c : Int) + bs - 1 = c - 1 + bs * 1 by ring,
      Int.add_mul_fdiv_left _ _ hpos] at hcalls
    omega
  obtain ⟨a, ha⟩ := List.length_eq_one_iff.mp hcount
  have hmem : CollabCall.process (if c = 0 then ctr else inc ctr) ∈ streamLoads bs ctr c 0 bs := by
    rw [streamLoads_eq, List.mem_reverse, List.mem_map]
    by_cases h0 : c = 0
    · exact ⟨0, List.mem_filter.mpr ⟨List.mem_range'_1.mpr (by omega), by simp [h0]⟩, by simp [h0]⟩
    · have hnext : c + (bs - c) = bs := by omega
      refine ⟨bs - c, List.mem_filter.mpr ⟨List.mem_range'_1.mpr (by omega), by simp [hnext]⟩, ?_⟩
      rw [hnext, Nat.div_self hbs, if_neg h0, inc_eq_addn, Nat.cast_one]
  rw [ha, List.mem_singleton] at hmem
  rw [ha, hmem]

/-- Settles O29: the stream command with `n = BS`. -/
theorem xblockCompletes : Obligations.XblockCompletes := by
  intro s k iv ctr c h hans hbs hin hcap
  obtain ⟨t, ht, hframe, hdel, hctr, hcur, hresult, herr, hfault, hcollab, hcalls⟩ :=
    exec_streamCommand_of_answers (.inl ⟨rfl, rfl, rfl⟩) h hans hin hcap
  have hdiv : (c + s.cfg.blockSize) / s.cfg.blockSize = 1 := by
    rw [Nat.add_div_right _ h.inv.blockSize_pos, Nat.div_eq_of_lt h.cur_lt]
  rw [hdiv, Nat.cast_one, ← inc_eq_addn] at hctr
  rw [Nat.add_mod_right, Nat.mod_eq_of_lt h.cur_lt] at hcur
  rw [blockSizeResult, if_pos hbs] at hresult
  rw [streamLoads_block ctr h.cur_lt] at hcalls
  exact ⟨t, _, ht, hframe, hdel, hctr, hcur, hresult, herr, hfault, hcollab, hcalls, rfl⟩

/-- Settles O30: the stream command with `n = uint(OPND)`. -/
theorem xrangeCompletes : Obligations.XrangeCompletes := by
  intro s k iv ctr c w h hans hopnd hin hcap
  obtain ⟨t, ht, hframe, hdel, hctr, hcur, hresult, herr, hfault, hcollab, hcalls⟩ :=
    exec_streamCommand_of_answers (.inr ⟨rfl, hopnd, rfl⟩) h hans hin hcap
  have hlength := streamLoads_length s.cfg.blockSize ctr c w.toNat
  exact ⟨t, _, ht, hframe, hdel, hctr, hcur, hresult, herr, hfault, hcollab, hcalls, processCalls_streamLoads _ _ _ _ _,
    hlength ▸ streamCalls_eq_length c w.toNat h.inv.blockSize_pos, hlength⟩

/-! ### A stream command aborts at a failing load (R153) -/

/-- The loop stops at a block's first byte when its load fails; the bytes before it are delivered. -/
theorem transformBytes_of_failure {s : State} {k : KeyToken} {iv ctr : List Byte} {c i : Nat} {l l' o : List Byte}
    {b : Byte} {v : CollabErrVal} (h : s.StandsPast k iv ctr c i)
    (ho : keystreamXor s.cfg k iv (logicalPosition s.cfg.blockSize iv ctr c + i) l = some o)
    (hfirst : (c + (i + l.length)) % s.cfg.blockSize = 0)
    (hfail : eKey s.cfg k (addn ctr ((c + (i + l.length)) / s.cfg.blockSize : Nat)) = .failed v) :
    ∃ u : State, transformBytes (l ++ b :: l') s = raiseCollab v u.loseKs ∧ u.cfg = s.cfg ∧ u.out = s.out ++ o ∧
      u.ctr = .val (addn ctr ((c + (i + l.length)) / s.cfg.blockSize : Nat)) ∧ u.cur = .val 0 := by
  obtain ⟨t, ht, hstands, hcfg, hout, -, -⟩ := transformBytes_of_keystreamXor h ho
  have hctr := hstands.ctr
  have hcur := hstands.cur
  rw [hcfg] at hctr hcur
  rw [hfirst] at hcur
  refine ⟨t.noteCall (.process (addn ctr ((c + (i + l.length)) / s.cfg.blockSize : Nat))), ?_, hcfg, hout, hctr, hcur⟩
  rw [transformBytes_append, ht, Res.bind_ok, transformBytes,
    byteBody_of_failure b hctr hcur hstands.key (by rw [hcfg, hfail]), raiseCollab_bind]

/-- The bytes before the failing load have their keystream: a block that is loaded answers by hypothesis, and the block the
command starts in stands in `KS` already (R38). -/
theorem exists_keystreamByte_before {s : State} {k : KeyToken} {iv ctr : List Byte} {c m j : Nat} (h : s.Live k iv ctr c)
    (hans : ∀ q : Nat, q < m → c = 0 ∨ 0 < q →
      ∃ b, eKey s.cfg k (bytesOf s.cfg.blockSize ((be ctr : Int) + q)) = .block b)
    (hj : c + j < m * s.cfg.blockSize) :
    ∃ x, keystreamByte s.cfg k iv (logicalPosition s.cfg.blockSize iv ctr c + j) = some x := by
  have hstart := h.standsPast
  have hbs := h.inv.blockSize_pos
  have hlt : (c + j) / s.cfg.blockSize < m := (Nat.div_lt_iff_lt_mul hbs).mpr hj
  have hblk : ∃ blk, eKey s.cfg k (addn ctr ((c + j) / s.cfg.blockSize : Nat)) = .block blk := by
    by_cases hq : c = 0 ∨ 0 < (c + j) / s.cfg.blockSize
    · obtain ⟨blk, hblk⟩ := hans _ hlt hq
      exact ⟨blk, by rw [addn_eq_bytesOf, hstart.ctr_length, hblk]⟩
    · obtain ⟨hc, hq⟩ := not_or.mp hq
      obtain ⟨blk, -, hblk⟩ := hstart.loaded (by rwa [Nat.add_zero, Nat.mod_eq_of_lt h.cur_lt])
      rw [Nat.add_zero, Nat.div_eq_of_lt h.cur_lt] at hblk
      exact ⟨blk, by rw [Nat.eq_zero_of_not_pos hq, hblk]⟩
  obtain ⟨blk, hblk⟩ := hblk
  obtain ⟨x, hx, -⟩ := exists_keystreamByte_of_block iv c j hbs hstart.ctr_length hblk
  exact ⟨x, hx⟩

/-- The bytes that a command takes from its input, cut before byte `i`. -/
theorem exists_take_eq_take_append_cons {l : List Byte} {i n : Nat} (hi : i < n) (hn : n ≤ l.length) :
    ∃ b rest, l.take n = l.take i ++ b :: rest := by
  have hlt : i < (l.take n).length := by rwa [List.length_take_of_le hn]
  have happend := List.take_append_drop i (l.take n)
  rw [List.take_take, Nat.min_eq_left hi.le, List.drop_eq_getElem_cons hlt] at happend
  exact ⟨_, _, happend.symm⟩

/-- Settles O32: the loop runs to byte `i`, and the load there fails. -/
theorem streamAbortsAtFailingLoad : Obligations.StreamAbortsAtFailingLoad := by
  intro s k iv ctr c cmd n i m w v h hcmd hin hcap hi hblock hans hfail
  have hstart := h.standsPast
  have hbs := h.inv.blockSize_pos
  have hlen : (s.chan.input.take i).length = i := List.length_take_of_le (by omega)
  obtain ⟨b, rest, hsplit⟩ := exists_take_eq_take_append_cons hi hin
  obtain ⟨o, ho⟩ := exists_keystreamXor (l := s.chan.input.take i) fun j hj =>
    exists_keystreamByte_before (iv := iv) (j := j) h hans (by omega)
  have hdiv : (c + i) / s.cfg.blockSize = m := by rw [hblock, Nat.mul_div_cancel _ hbs]
  have hctr' : addn ctr (m : Int) = bytesOf s.cfg.blockSize ((be ctr : Int) + m) := by
    rw [addn_eq_bytesOf, hstart.ctr_length]
  obtain ⟨u, hu, hcfg, hout, hctr, hcur⟩ := transformBytes_of_failure (b := b) (l' := rest) (v := v) hstart ho
    (by rw [Nat.zero_add, hlen, hblock, Nat.mul_mod_left]) (by rw [Nat.zero_add, hlen, hdiv, hctr', hfail])
  rw [Nat.zero_add, hlen, hdiv, hctr'] at hctr
  have hexec : exec cmd s = .next ((u.loseKs.markCollab v).setErr .collab) := by
    rw [exec_streamCommand_of_room hcmd hstart hin hcap, hsplit, hu, raiseCollab_bind, finish_raiseCollab]
  have hend := streamCommand_frame hcmd hexec
  exact ⟨_, freeBlock u.cfg.blockSize u.freeCount, hexec, hend.regs,
    deliveredFrom_of_keystreamXor (by omega) ho hout, hctr, hcur, rfl,
    (freeBlock_length _ _).trans (congrArg Config.blockSize hcfg),
    hend.result_of_err (by decide : errCode .collab ≠ 0), rfl, rfl, rfl⟩

/-! ### Chunking (R159) -/

section
variable {s : State} {k : KeyToken} {iv ctr o : List Byte} {c i : Nat}

theorem State.StandsPast.withStream (m : List Byte) (h : s.StandsPast k iv ctr c i) :
    (withStream m s).StandsPast k iv ctr c i :=
  ⟨{ h.sound with }, h.trusted, h.key, h.iv, h.ctr, h.cur⟩

/-- A stream command that moves the whole of its input, on channels that the host set for it. -/
theorem exec_withStream {cmd : Instr} {m : List Byte} {w : OpWord}
    (hcmd : streamCommand cmd (withStream m s) m.length w) (h : s.StandsPast k iv ctr c i)
    (ho : keystreamXor s.cfg k iv (logicalPosition s.cfg.blockSize iv ctr c + i) m = some o) :
    ∃ t, exec cmd (withStream m s) = .next t ∧ t.out = o ∧ t.StandsPast k iv ctr c (i + m.length) ∧ t.cfg = s.cfg ∧
      t.err = 0 := by
  obtain ⟨t, ht, hstands, hcfg, hout, -, herr, -⟩ :=
    exec_streamCommand_of_keystreamXor hcmd (h.withStream m) le_rfl le_rfl (by
      rw [show (withStream m s).chan.input.take m.length = m from List.take_length]
      exact ho)
  exact ⟨t, ht, hout, hstands, hcfg, herr⟩

theorem streamCommand_xblock {m : List Byte} (hm : m.length = s.cfg.blockSize) :
    streamCommand .xblock (withStream m s) m.length (blockSizeResult s.cfg.blockSize) :=
  .inl ⟨rfl, hm, rfl⟩

theorem streamCommand_xrange {m : List Byte} (hm : m.length < 2 ^ 64) :
    streamCommand .xrange (withStream m s) m.length (BitVec.ofNat 64 m.length) :=
  .inr ⟨rfl, rfl, by rw [BitVec.toNat_ofNat, Nat.mod_eq_of_lt hm]⟩

/-- Each kind of piece gives the keystream XOR its bytes, and moves on by its length. -/
theorem transformPiece_of_keystreamXor {p : Piece} (h : s.StandsPast k iv ctr c i)
    (hfit : ∀ m, p = .block m → m.length = s.cfg.blockSize) (hlen : (pieceBytes p).length < 2 ^ 64)
    (ho : keystreamXor s.cfg k iv (logicalPosition s.cfg.blockSize iv ctr c + i) (pieceBytes p) = some o) :
    ∃ t, transformPiece p s = some (o, t) ∧ t.StandsPast k iv ctr c (i + (pieceBytes p).length) ∧ t.cfg = s.cfg ∧
      t.err = 0 := by
  cases p with
  | byte b =>
    obtain ⟨x, o', hx, ho', rfl⟩ := keystreamXor_cons ho
    cases ho'
    obtain ⟨t, ht, hstands, hcfg, herr, hresult⟩ := exec_xbyte_of_keystreamByte h b hx
    exact ⟨t, by simp [transformPiece, ht, Outcome.state?, hresult], hstands, hcfg, herr⟩
  | block m =>
    obtain ⟨t, ht, rfl, hstands, hcfg, herr⟩ := exec_withStream (m := m) (streamCommand_xblock (hfit m rfl)) h ho
    exact ⟨t, by simp [transformPiece, ht, Outcome.state?], hstands, hcfg, herr⟩
  | range m =>
    obtain ⟨t, ht, rfl, hstands, hcfg, herr⟩ := exec_withStream (m := m) (streamCommand_xrange hlen) h ho
    exact ⟨t, by simp [transformPiece, ht, Outcome.state?], hstands, hcfg, herr⟩

theorem messageOf_cons (p : Piece) (ps : List Piece) : messageOf (p :: ps) = pieceBytes p ++ messageOf ps := by
  simp [messageOf]

theorem transformPieces_of_keystreamXor {pieces : List Piece} (h : s.StandsPast k iv ctr c i)
    (hfit : piecesFit s.cfg.blockSize pieces) (hlen : (messageOf pieces).length < 2 ^ 64)
    (ho : keystreamXor s.cfg k iv (logicalPosition s.cfg.blockSize iv ctr c + i) (messageOf pieces) = some o) :
    ∃ u, transformPieces pieces s = some (o, u) ∧ u.StandsPast k iv ctr c (i + (messageOf pieces).length) ∧
      u.cfg = s.cfg ∧ u.err = (if pieces = [] then s.err else 0) := by
  induction pieces generalizing s i o with
  | nil => cases ho; exact ⟨s, rfl, h, rfl, rfl⟩
  | cons p ps ih =>
    rw [messageOf_cons] at ho hlen ⊢
    rw [List.length_append] at hlen ⊢
    obtain ⟨o₁, o₂, ho₁, ho₂, rfl⟩ := keystreamXor_append ho
    obtain ⟨t, ht, hstands, hcfg, herr⟩ := transformPiece_of_keystreamXor h
      (fun m hm => hfit m (hm ▸ List.mem_cons_self)) (by omega) ho₁
    obtain ⟨u, hu, hstands', hcfg', herr'⟩ := ih hstands
      (fun m hm => hcfg.symm ▸ hfit m (List.mem_cons_of_mem p hm)) (by omega) (by rwa [hcfg, ← Nat.add_assoc])
    refine ⟨u, by simp [transformPieces, ht, hu], Nat.add_assoc i _ _ ▸ hstands', hcfg'.trans hcfg, ?_⟩
    rw [herr', herr, if_neg (List.cons_ne_nil p ps), ite_self]

end

/-- Settles O33: the whole and its pieces both XOR the message with the keystream from the same position. -/
theorem chunkingGivesSameOutput : Obligations.ChunkingGivesSameOutput := by
  intro s k iv ctr c pieces h hans hfit hlen
  have hstart := h.standsPast
  obtain ⟨o, ho⟩ := exists_keystreamXor (l := messageOf pieces) fun j _ =>
    keystreamByte_of_answers iv c j h.inv.blockSize_pos hstart.ctr_length hans
  obtain ⟨t, ht, rfl, htend, htcfg, hterr⟩ := exec_withStream (streamCommand_xrange hlen) hstart ho
  obtain ⟨u, hu, huend, hucfg, huerr⟩ := transformPieces_of_keystreamXor hstart hfit hlen ho
  have hcfg : u.cfg = t.cfg := hucfg.trans htcfg.symm
  exact ⟨t, u, ht, hterr, hu, huerr, by rw [huend.ctr, htend.ctr, hcfg], by rw [huend.cur, htend.cur, hcfg]⟩

end Sys2Proof.Machine
end

section
/-! PROOF. SKIP, SEEK and GETPOS, one command at a time (43_position.md R165, R172, R178): SKIP and SEEK end in the same
movement, and each command ends where the collaborator's answers say. -/

namespace Sys2Proof.Machine

/-! ### The movement of SKIP and SEEK -/

/-- SKIPADJ, the eager load and the answer `w`: how SKIP and SEEK end (R165, R166, R172). -/
def movement (n : Int) (w : OpWord) (s : State) : Res Unit :=
  (skipAdj n s).bind fun _ s1 => (ksload s1).bind fun _ s2 => .ok () (s2.setResult w)

/-- The state in which a movement to `CTR = ctr`, `CUR = c` has loaded the block `blk` and answered `w`. -/
def State.landed (ctr : List Byte) (c : Nat) (blk : List Byte) (w : OpWord) (s : State) : State :=
  ((((s.setCtr ctr).setCur c).noteCall (.process ctr)).setKs blk).setResult w

section
variable {s : State} {n : Int} {w : OpWord} {ctr ctr' : List Byte} {c c' : Nat} {k : KeyToken}

theorem movement_of_target (w : OpWord) (hctr : s.ctr = .val ctr) (hcur : s.cur = .val c)
    (htarget : skipTarget s.cfg n ctr c = (ctr', c')) :
    movement n w s = (ksload ((s.setCtr ctr').setCur c')).bind fun _ s2 => .ok () (s2.setResult w) := by
  rw [movement, skipAdj, hcur, readReg_val, hctr, readReg_val, htarget, Res.bind_ok]

theorem finish_movement_of_answer {blk : List Byte} (w : OpWord) (hctr : s.ctr = .val ctr) (hcur : s.cur = .val c)
    (hkey : s.key = .token k) (htarget : skipTarget s.cfg n ctr c = (ctr', c')) (hblk : eKey s.cfg k ctr' = .block blk) :
    finish (movement n w s) = .next ((s.landed ctr' c' blk w).setErr .ok) := by
  rw [movement_of_target w hctr hcur htarget, ksload_of_answer (s := (s.setCtr ctr').setCur c') rfl hkey hblk, Res.bind_ok,
    finish_ok, State.landed]

/-- A failing load leaves the adjustment as it is (R196). -/
theorem finish_movement_of_failure {v : CollabErrVal} (w : OpWord) (hctr : s.ctr = .val ctr) (hcur : s.cur = .val c)
    (hkey : s.key = .token k) (htarget : skipTarget s.cfg n ctr c = (ctr', c')) (hfail : eKey s.cfg k ctr' = .failed v) :
    finish (movement n w s) =
      .next (((((s.setCtr ctr').setCur c').noteCall (.process ctr')).loseKs.markCollab v).setErr .collab) := by
  rw [movement_of_target w hctr hcur htarget, ksload_of_failure (s := (s.setCtr ctr').setCur c') rfl hkey hfail,
    raiseCollab_bind, finish_raiseCollab]

/-- A movement that left `STATUS.ERR = 0` loaded its block. -/
theorem finish_movement_completed {t : State} (hctr : s.ctr = .val ctr) (hcur : s.cur = .val c)
    (hkey : s.key = .token k) (htarget : skipTarget s.cfg n ctr c = (ctr', c')) (h : finish (movement n w s) = .next t)
    (herr : t.err = 0) :
    ∃ blk, eKey s.cfg k ctr' = .block blk ∧ t.ctr = .val ctr' ∧ t.cur = .val c' ∧ t.ks = .val blk ∧
      t.faultMark = s.faultMark := by
  cases hanswer : eKey s.cfg k ctr' with
  | block blk =>
    cases h.symm.trans (finish_movement_of_answer w hctr hcur hkey htarget hanswer)
    exact ⟨blk, rfl, rfl, rfl, rfl, rfl⟩
  | failed v =>
    cases h.symm.trans (finish_movement_of_failure w hctr hcur hkey htarget hanswer)
    exact absurd herr (by decide : errCode .collab ≠ 0)

end

/-! ### SKIP -/

theorem exec_skip_of_opnd {s : State} {w : OpWord} (hopnd : s.opnd = .val w) :
    exec .skip s = finish (movement w.toInt w s) := by
  rw [exec, execSkip, hopnd, readReg_val, skipOffset, movement]

/-- Settles O34, by the collaborator's answer to the eager load. -/
theorem skipCommand : Obligations.SkipCommand := by
  refine fun s => ⟨fun w ctr c k ctr' c' hopnd hctr hcur hkey htarget => ⟨fun b hblk => ?_, fun v hfail => ?_⟩,
    fun hopnd => ?_⟩
  · rw [exec_skip_of_opnd hopnd, finish_movement_of_answer w hctr hcur hkey htarget hblk]
    exact ⟨Config.freeBuffering s.freeCount, rfl⟩
  · rw [exec_skip_of_opnd hopnd, finish_movement_of_failure w hctr hcur hkey htarget hfail]
    exact ⟨Config.freeBuffering s.freeCount, freeBlock s.cfg.blockSize (s.freeCount + 1), freeBlock_length _ _, rfl⟩
  · rw [exec, execSkip, hopnd, readReg_uninit, finish_stop]

/-! ### RESET and SEEK -/

/-- The state in which RESET_BODY completes (R136). -/
def State.restarted (iv : List Byte) (s : State) : State :=
  (((s.setCtr iv).noteCall .reset).clearBuffering).setCur 0

/-- From `(IV, 0)` the forward branch divides the position by BS (R173). -/
theorem skipTarget_position (cfg : Config) (p : Nat) (iv : List Byte) :
    skipTarget cfg p iv 0 = (addn iv (p / cfg.blockSize : Nat), p % cfg.blockSize) := by
  rw [skipTarget, if_pos (Int.natCast_nonneg p), Int.toNat_natCast, skipForward, Nat.add_zero, ← Nat.mod_def]

section
variable {s t : State} {w : OpWord} {iv : List Byte}

/-- A RESET that left `STATUS.ERR = 0` made its call with success (R136). -/
theorem exec_reset_completed (hiv : s.iv = .val iv) (hdone : s.initDone = true) (h : exec .reset s = .next t)
    (herr : t.err = 0) : t = (s.restarted iv).setErr .ok := by
  rw [exec_reset_of_initDone hiv hdone] at h
  cases hanswer : resetFailure s.cfg s.freeCount with
  | none =>
    cases h.symm.trans (congrArg finish (resetBody_of_answer hiv hanswer))
    rfl
  | some v =>
    cases h.symm.trans (congrArg finish (resetBody_of_failure hiv hanswer))
    exact absurd herr (by decide : errCode .collab ≠ 0)

theorem exec_seek_of_initDone (hopnd : s.opnd = .val w) (hiv : s.iv = .val iv) (hdone : s.initDone = true) :
    exec .seek s = finish ((resetBody s).bind fun _ s1 => movement w.toNat w s1) := by
  rw [exec, execSeek, hopnd, readReg_val, resetAfterInit_of_initDone hiv hdone, seekPosition]
  rfl

/-- After its RESET body SEEK is a movement from `(IV, 0)` (R172). -/
theorem exec_seek_of_reset (hopnd : s.opnd = .val w) (hiv : s.iv = .val iv) (hdone : s.initDone = true)
    (hanswer : resetFailure s.cfg s.freeCount = none) :
    exec .seek s = finish (movement w.toNat w (s.restarted iv)) := by
  rw [exec_seek_of_initDone hopnd hiv hdone, resetBody_of_answer hiv hanswer, Res.bind_ok, State.restarted]

theorem exec_seek_of_resetFailure {v : CollabErrVal} (hopnd : s.opnd = .val w) (hiv : s.iv = .val iv)
    (hdone : s.initDone = true) (hfail : resetFailure s.cfg s.freeCount = some v) :
    exec .seek s = .next ((((s.setCtr iv).noteCall .reset).markCollab v).setErr .collab) := by
  rw [exec_seek_of_initDone hopnd hiv hdone, resetBody_of_failure hiv hfail, raiseCollab_bind, finish_raiseCollab]

/-- A SEEK that left `STATUS.ERR = 0` made both of its calls with success (R175). -/
theorem exec_seek_completed {k : KeyToken} (hopnd : s.opnd = .val w) (hiv : s.iv = .val iv) (hdone : s.initDone = true)
    (hkey : s.key = .token k) (h : exec .seek s = .next t) (herr : t.err = 0) :
    ∃ blk, eKey s.cfg k (addn iv (w.toNat / s.cfg.blockSize : Nat)) = .block blk ∧
      t.ctr = .val (addn iv (w.toNat / s.cfg.blockSize : Nat)) ∧ t.cur = .val (w.toNat % s.cfg.blockSize) ∧
      t.ks = .val blk ∧ t.faultMark = s.faultMark := by
  cases hanswer : resetFailure s.cfg s.freeCount with
  | none =>
    rw [exec_seek_of_reset hopnd hiv hdone hanswer] at h
    exact finish_movement_completed (s := s.restarted iv) rfl rfl hkey (skipTarget_position s.cfg w.toNat iv) h herr
  | some v =>
    cases h.symm.trans (exec_seek_of_resetFailure hopnd hiv hdone hanswer)
    exact absurd herr (by decide : errCode .collab ≠ 0)

end

/-- Settles O35: the movement from `(IV, 0)` divides the position by BS. -/
theorem seekCompletes : Obligations.SeekCompletes := by
  intro s w iv k b ctr' hopnd hiv hdone hkey hanswer hctr' hblk
  subst hctr'
  rw [exec_seek_of_reset hopnd hiv hdone hanswer,
    finish_movement_of_answer (s := s.restarted iv) w rfl rfl hkey (skipTarget_position s.cfg w.toNat iv) hblk]
  refine ⟨Config.freeBuffering (s.freeCount + 1), ?_⟩
  rfl

/-! ### GETPOS -/

/-- Settles O37. -/
theorem getposCompletes : Obligations.GetposCompletes :=
  fun _ _ _ _ hiv hctr hcur => exec_getpos_of_written hiv hctr hcur

/-- The difference of the counter from `IV` is the block part of the logical position (R39, R115). -/
theorem logicalPosition_eq_be_diff {bs : Nat} {iv ctr : List Byte} (c : Nat) (hiv : iv.length = bs)
    (hctr : ctr.length = bs) : logicalPosition bs iv ctr c = be (diff ctr iv) * bs + c := by
  have hdiff : ((be ctr : Int) - be iv) % counterSpace bs = be (diff ctr iv) := by
    rw [diff_eq_bytesOf (hctr.trans hiv.symm), hctr, be_bytesOf]
    simp [counterSpace]
  rw [logicalPosition, hdiff, Int.toNat_natCast]

/-- A window of eight bytes loses whole multiples of `2^64`, which the word loses too (R180). -/
theorem positionResult_toNat {bs : Nat} {iv ctr : List Byte} (c : Nat) (hiv : iv.length = bs) (hctr : ctr.length = bs) :
    (positionResult (window 8 (diff ctr iv)) bs c).toNat = logicalPosition bs iv ctr c % 2 ^ 64 := by
  rw [positionResult, BitVec.toNat_ofNat, logicalPosition_eq_be_diff c hiv hctr]
  exact ((Nat.mod_modEq (be (diff ctr iv)) (2 ^ 64)).mul_right bs).add_right c

/-- Settles O38. -/
theorem getposReportsPosition : Obligations.GetposReportsPosition := by
  intro s iv ctr c hwindow hiv hctr hcur hivlen hctrlen
  refine ⟨_, _, exec_getpos_of_written hiv hctr hcur, rfl, ?_⟩
  rw [hwindow]
  exact positionResult_toNat c hivlen hctrlen

end Sys2Proof.Machine
end

section
/-! PROOF. The position laws of SKIP and SEEK (43_position.md R169, R174, R182), in a live engine. -/

namespace Sys2Proof.Machine

section
variable {s : State} {k : KeyToken} {iv ctr : List Byte} {c : Nat}

/-! ### What the invariant says of a live engine -/

theorem State.Live.initDone (h : s.Live k iv ctr c) : s.initDone = true := h.inv.cur_init c h.cur

theorem State.Live.iv_length (h : s.Live k iv ctr c) : iv.length = s.cfg.blockSize := h.inv.iv_length iv h.iv

theorem State.Live.ctr_length (h : s.Live k iv ctr c) : ctr.length = s.cfg.blockSize := h.inv.ctr_length ctr h.ctr

/-! ### SKIP -/

/-- Settles O39: a skip lands as in R123, but for TRUNC's short backward skip. -/
theorem skipMovesPosition : Obligations.SkipMovesPosition := by
  intro s t k iv ctr c w hlive hopnd h herr
  rw [exec_skip_of_opnd hopnd] at h
  rcases htarget : skipTarget s.cfg w.toInt ctr c with ⟨ctr', c'⟩
  obtain ⟨blk, -, hctr, hcur, -⟩ := finish_movement_completed hlive.ctr hlive.cur hlive.key htarget h herr
  refine ⟨ctr', c', hctr, hcur, ?_⟩
  split
  next hshort =>
    obtain ⟨htrunc, hneg, hlt⟩ := hshort
    cases htarget.symm.trans (skipTarget_trunc_short ctr htrunc hlive.cur_lt ⟨hneg, hlt⟩)
    simp [logicalPosition]
  next hlong =>
    have hdiv : s.cfg.negSkipDiv = .floor ∨ ¬ (0 < -w.toInt ∧ -w.toInt < (c : Int)) := by
      cases hd : s.cfg.negSkipDiv with
      | floor => exact .inl rfl
      | trunc => exact .inr fun hshort => hlong ⟨hd, hshort⟩
    have hmoved := logicalPosition_skipLanding w.toInt iv hlive.ctr_length hlive.cur_lt
    rwa [← skipTarget_eq_skipLanding ctr hlive.inv.blockSize_pos hdiv, htarget] at hmoved

/-! ### SEEK -/

/-- From position 0 the position `p` is `p` modulo the whole space (R39). -/
theorem logicalPosition_position {bs : Nat} (p : Nat) {iv : List Byte} (hbs : 1 ≤ bs) (hiv : iv.length = bs) :
    logicalPosition bs iv (addn iv (p / bs : Nat)) (p % bs) = p % positionSpace bs := by
  have hadd := logicalPosition_add iv (c := 0) p hiv hbs
  simpa only [logicalPosition_atStart, Nat.zero_add] using hadd

/-- The counter and the cursor are those of their logical position. -/
theorem position_logicalPosition {bs : Nat} {iv ctr : List Byte} {c : Nat} (hiv : iv.length = bs) (hctr : ctr.length = bs)
    (hc : c < bs) :
    addn iv (logicalPosition bs iv ctr c / bs : Nat) = ctr ∧ logicalPosition bs iv ctr c % bs = c := by
  have hblock := bytesOf_logicalPosition_add iv c 0 (by omega) hctr
  have hoffset := logicalPosition_add_mod bs iv ctr c 0
  simp only [Nat.add_zero, Nat.div_eq_of_lt hc, Nat.mod_eq_of_lt hc, Nat.cast_zero, addn_zero] at hblock hoffset
  exact ⟨by rw [addn_eq_bytesOf, hiv, hblock], hoffset⟩

/-- An engine at `CTR = IV`, `CUR = 0` stands at position 0, whatever `KS` holds (R137). -/
theorem State.AtStart.standsPast (h : s.AtStart iv) (hshape : s.Shape) (htrusted : s.trusted) (hkey : s.key = .token k) :
    s.StandsPast k iv iv 0 0 := by
  obtain ⟨hiv, hctr, hcur⟩ := h
  exact ⟨hshape.sound_of_cur_zero hcur, htrusted, hkey, hiv, by simp [hctr], by simp [hcur]⟩

/-- A SEEK with no error stands as far past position 0 as `OPND` says (R174). -/
theorem exec_seek_standsPast {t : State} {w : OpWord} (hlive : s.Live k iv ctr c) (hopnd : s.opnd = .val w)
    (h : exec .seek s = .next t) (herr : t.err = 0) : t.StandsPast k iv iv 0 w.toNat ∧ t.cfg = s.cfg := by
  obtain ⟨hcfg, -⟩ := exec_hostSideKept h
  obtain ⟨hiv, hkey, -⟩ := initialisation_of_streamFrame (execSeek_frame h).1.regs
  obtain ⟨blk, -, hctr, hcur, -, hfault⟩ := exec_seek_completed hopnd hlive.iv hlive.initDone hlive.key h herr
  exact ⟨⟨exec_sound (inv_iff.mp hlive.inv).1 h, hfault.trans hlive.trusted, hkey.trans hlive.key, hiv.trans hlive.iv,
    by rw [hctr, hcfg, Nat.zero_add], by rw [hcur, hcfg, Nat.zero_add]⟩, hcfg⟩

/-- A RESET with no error stands at position 0 (R137). -/
theorem exec_reset_standsPast {z : State} (hlive : s.Live k iv ctr c) (h : exec .reset s = .next z) (herr : z.err = 0) :
    z.StandsPast k iv iv 0 0 ∧ z.cfg = s.cfg := by
  have hsound := exec_sound (inv_iff.mp hlive.inv).1 h
  cases exec_reset_completed hlive.iv hlive.initDone h herr
  exact ⟨State.AtStart.standsPast ⟨hlive.iv, rfl, rfl⟩ hsound.toShape hlive.trusted hlive.key, rfl⟩

/-- An engine that stands where `pre` ends gives the message `m` the bytes that one at position 0 gives it after `pre`
(R174). -/
theorem exec_xrange_from_position {t z u : State} {pre m : List Byte}
    (hz : z.StandsPast k iv iv 0 0) (ht : t.StandsPast k iv iv 0 pre.length) (hcfg : t.cfg = z.cfg)
    (hans : collaboratorAnswers z.cfg k) (hlen : (pre ++ m).length < 2 ^ 64)
    (hu : exec .xrange (withStream (pre ++ m) z) = .next u) :
    ∃ u', exec .xrange (withStream m t) = .next u' ∧ u'.err = 0 ∧ u'.out = u.out.drop pre.length := by
  obtain ⟨o, ho⟩ := exists_keystreamXor (l := pre ++ m) fun j _ =>
    keystreamByte_of_answers iv 0 j hz.sound.blockSize_pos hz.ctr_length hans
  obtain ⟨o₁, o₂, ho₁, ho₂, rfl⟩ := keystreamXor_append ho
  obtain ⟨u₁, hu₁, hout₁, -⟩ := exec_withStream (streamCommand_xrange hlen) hz ho
  cases hu.symm.trans hu₁
  rw [List.length_append] at hlen
  obtain ⟨u', hu', hout', -, -, herr'⟩ := exec_withStream (streamCommand_xrange (by omega)) ht (hcfg ▸ ho₂)
  exact ⟨u', hu', herr', by rw [hout', hout₁, List.drop_left' (keystreamXor_length ho₁)]⟩

end

/-- Settles O40: after the SEEK and after the RESET the engine stands at known distances from position 0. -/
theorem seekSetsPosition : Obligations.SeekSetsPosition := by
  intro s t k iv ctr c w hlive hopnd h herr
  obtain ⟨hstands, hcfg⟩ := exec_seek_standsPast hlive hopnd h herr
  refine ⟨⟨_, _, hstands.ctr, hstands.cur, ?_⟩, fun hans pre m hpre hlen z u hz hzerr hu => ?_⟩
  · rw [hcfg, Nat.zero_add]
    exact logicalPosition_position w.toNat hlive.inv.blockSize_pos hlive.iv_length
  · obtain ⟨hzstands, hzcfg⟩ := exec_reset_standsPast hlive hz hzerr
    rw [← hpre] at hstands ⊢
    exact exec_xrange_from_position hzstands hstands (hcfg.trans hzcfg.symm) (hzcfg.symm ▸ hans) hlen hu

/-- Settles O43: `q` is the position itself, and a counter and cursor are those of their position. -/
theorem seekOfGetposRestores : Obligations.SeekOfGetposRestores := by
  intro s t u k iv ctr c q hlive hwindow hpos hget hresult hseek herr
  cases hget.symm.trans (exec_getpos_of_written hlive.iv hlive.ctr hlive.cur)
  cases hresult
  obtain ⟨blk, hblk, hctr', hcur', hks, -⟩ :=
    exec_seek_completed (s := { s with opnd := .val _, result := .val _, err := 0 }) rfl hlive.iv hlive.initDone hlive.key
      hseek herr
  obtain ⟨hctr, hcur⟩ := position_logicalPosition hlive.iv_length hlive.ctr_length hlive.cur_lt
  have hq : (positionResult (window s.cfg.posWindowBytes (diff ctr iv)) s.cfg.blockSize c).toNat =
      logicalPosition s.cfg.blockSize iv ctr c := by
    rw [hwindow, positionResult_toNat c hlive.iv_length hlive.ctr_length, Nat.mod_eq_of_lt hpos]
  rw [hq, hctr] at hblk hctr'
  rw [hq, hcur] at hcur'
  exact ⟨hctr', hcur', blk, hks, hblk⟩

end Sys2Proof.Machine
end

section
/-! PROOF. The bytes transformed since INIT or RESET (43_position.md R181), also in an engine that recorded a fault before:
the transform commands run in the same way whether the marker `FAULT` (10_state.md R48) is set or not. -/

namespace Sys2Proof.Machine

/-- The state with no fault recorded. -/
def State.unmarked (s : State) : State := { s with faultMark := false }

/-- What a run gives, but for the marker of its state. -/
def Res.unmarked {α : Type} : Res α → Res α
  | .ok a s => .ok a s.unmarked
  | .raised e s => .raised e s.unmarked
  | .stop f => .stop f

/-- The part `f` of a command does not read the marker. -/
def IgnoresMark {α : Type} (f : State → Res α) : Prop := ∀ s, (f s.unmarked).unmarked = (f s).unmarked

namespace IgnoresMark
variable {α β : Type}

/-- States that differ in the marker alone give results that do. -/
theorem congr {f : State → Res α} (hf : IgnoresMark f) {s s' : State} (h : s'.unmarked = s.unmarked) :
    (f s').unmarked = (f s).unmarked := by
  rw [← hf s', h, hf s]

theorem bind {f : State → Res β} {k : β → State → Res α} (hf : IgnoresMark f) (hk : ∀ b, IgnoresMark (k b)) :
    IgnoresMark fun s => (f s).bind k := by
  have hrest (r : Res β) : (r.bind k).unmarked = (r.unmarked.bind k).unmarked := by
    cases r with
    | ok b t => exact (hk b t).symm
    | raised e t => rfl
    | stop f => rfl
  intro s
  rw [hrest, hf s, ← hrest]

theorem readReg {el : Element} {r : State → Reg β} {k : β → State → Res α} (hr : ∀ s, r s.unmarked = r s)
    (hk : ∀ b, IgnoresMark (k b)) : IgnoresMark fun s => readReg el (r s) fun b => k b s := by
  intro s
  dsimp only
  rw [hr]
  cases r s with
  | uninit => rfl
  | val b => exact hk b s

theorem ite {p : State → Prop} [DecidablePred p] {f g : State → Res α} (hp : ∀ s, p s.unmarked ↔ p s)
    (hf : IgnoresMark f) (hg : IgnoresMark g) : IgnoresMark fun s => if p s then f s else g s := by
  intro s
  by_cases h : p s
  · simp only [if_pos h, if_pos ((hp s).mpr h), hf s]
  · simp only [if_neg h, if_neg (mt (hp s).mp h), hg s]

end IgnoresMark

/-! ### The transform commands -/

theorem ksload_ignoresMark : IgnoresMark ksload := by
  intro s
  rcases ksload_cases s with ⟨hctr, e⟩ | ⟨ctr, hctr, hkey, e⟩ | ⟨ctr, k, b, hctr, hkey, hblk, e⟩ |
    ⟨ctr, k, v, hctr, hkey, hfail, e⟩ <;> rw [e]
  · simp [ksload, State.unmarked, hctr]
  · simp [ksload, State.unmarked, hctr, hkey]
  · rw [ksload_of_answer (s := s.unmarked) hctr hkey hblk]
    rfl
  · rw [ksload_of_failure (s := s.unmarked) hctr hkey hfail]
    rfl

theorem xorByte_ignoresMark (b : Byte) : IgnoresMark (xorByte b) := by
  refine .readReg (r := State.ks) (fun _ => rfl) fun ks => .readReg (r := State.cur) (fun _ => rfl) fun cur s => ?_
  cases ks[cur]? with
  | none => rfl
  | some x => rfl

theorem advance_ignoresMark : IgnoresMark advance :=
  .readReg (r := State.cur) (fun _ => rfl) fun cur =>
    .ite (p := fun s => cur + 1 = s.cfg.blockSize) (fun _ => Iff.rfl)
      (.readReg (r := State.ctr) (fun _ => rfl) fun _ _ => rfl) fun _ => rfl

theorem byteBody_ignoresMark (b : Byte) : IgnoresMark (byteBody b) :=
  .readReg (r := State.cur) (fun _ => rfl) fun cur =>
    (.ite (p := fun _ => cur = 0) (fun _ => Iff.rfl) ksload_ignoresMark fun _ => rfl : IgnoresMark _).bind fun _ =>
      (xorByte_ignoresMark b).bind fun _ => advance_ignoresMark.bind fun _ _ => rfl

theorem transformBytes_ignoresMark (l : List Byte) : IgnoresMark (transformBytes l) := by
  induction l with
  | nil => exact fun _ => rfl
  | cons b l ih => exact (byteBody_ignoresMark b).bind fun o s => ih.congr rfl

theorem transformStream_ignoresMark (n : Nat) (w : OpWord) : IgnoresMark (transformStream n w) :=
  .readReg (r := State.cur) (fun _ => rfl) fun _ => .readReg (r := State.ctr) (fun _ => rfl) fun _ =>
    .ite (p := fun s => shortChannel s.chan n = true) (fun _ => Iff.rfl) (fun _ => rfl)
      (.bind (fun s => transformBytes_ignoresMark (s.chan.input.take n) s) fun _ _ => rfl)

/-! ### The pieces of a message -/

theorem state?_eq_some {o : Host.Outcome State Fault Refusal} {t : State} : Outcome.state? o = some t ↔ o = .next t := by
  cases o <;> simp [Outcome.state?]

/-- The end of a command leaves the marker as its last part did (R190). -/
theorem finish_congr {r r' : Res Unit} {t' : State} (h : r'.unmarked = r.unmarked) (hr : finish r' = .next t') :
    ∃ t, finish r = .next t ∧ t'.unmarked = t.unmarked := by
  rcases finish_next hr with ⟨u', rfl, rfl⟩ | ⟨e, u', rfl, rfl⟩
  · cases r with
    | ok a u => exact ⟨_, rfl, congrArg (State.setErr .ok) (Res.ok.inj h).2⟩
    | raised e u => cases h
    | stop f => cases h
  · cases r with
    | ok a u => cases h
    | raised e' u =>
      obtain ⟨rfl, hu⟩ := Res.raised.inj h
      exact ⟨_, rfl, congrArg (State.setErr e) hu⟩
    | stop f => cases h

/-- From states that differ in the marker alone the command ends in states that do. -/
def CommandIgnoresMark (i : Instr) : Prop :=
  ∀ ⦃s s' t' : State⦄, s'.unmarked = s.unmarked → exec i s' = .next t' →
    ∃ t, exec i s = .next t ∧ t'.unmarked = t.unmarked

theorem IgnoresMark.command {i : Instr} {f : State → Res Unit} (hf : IgnoresMark f) (hi : ∀ s, exec i s = finish (f s)) :
    CommandIgnoresMark i := by
  intro s s' t' h ht
  rw [hi] at ht ⊢
  exact finish_congr (hf.congr h) ht

theorem xbyte_ignoresMark (b : Byte) : CommandIgnoresMark (.xbyte b) :=
  ((byteBody_ignoresMark b).bind fun _ _ => rfl).command fun _ => rfl

theorem xblock_ignoresMark : CommandIgnoresMark .xblock :=
  IgnoresMark.command (fun s => transformStream_ignoresMark s.cfg.blockSize _ s) fun _ => rfl

theorem xrange_ignoresMark : CommandIgnoresMark .xrange :=
  IgnoresMark.command
    (.readReg (r := State.opnd) (fun _ => rfl) fun w => transformStream_ignoresMark (rangeCount w) w) fun _ => rfl

/-- The bytes on OUT and the state of a stream command given the bytes `m`, as `transformPiece` takes them. -/
theorem withStream_congr {i : Instr} (hi : CommandIgnoresMark i) {m o : List Byte} {s s' t' : State}
    (h : s'.unmarked = s.unmarked)
    (hp : (Outcome.state? (exec i (withStream m s'))).map (fun t => (t.out, t)) = some (o, t')) :
    ∃ t, (Outcome.state? (exec i (withStream m s))).map (fun t => (t.out, t)) = some (o, t) ∧
      t'.unmarked = t.unmarked := by
  obtain ⟨u', hu', hout⟩ := Option.map_eq_some_iff.mp hp
  cases hout
  have hset : (withStream m s').unmarked = (withStream m s).unmarked := (congrArg (withStream m) h :)
  obtain ⟨u, hu, hmark⟩ := hi hset (state?_eq_some.mp hu')
  have hsame : t'.out = u.out := (congrArg State.out hmark :)
  exact ⟨u, by simp [state?_eq_some.mpr hu, hsame], hmark⟩

/-- A piece gives the same bytes whether the marker is set or not. -/
theorem transformPiece_congr {s s' t' : State} {p : Piece} {o : List Byte} (h : s'.unmarked = s.unmarked)
    (hp : transformPiece p s' = some (o, t')) : ∃ t, transformPiece p s = some (o, t) ∧ t'.unmarked = t.unmarked := by
  cases p with
  | byte b =>
    obtain ⟨u', hu', hout⟩ := Option.bind_eq_some_iff.mp hp
    obtain ⟨u, hu, hmark⟩ := xbyte_ignoresMark b h (state?_eq_some.mp hu')
    have hresult : u'.result = u.result := (congrArg State.result hmark :)
    rw [hresult] at hout
    cases hw : u.result with
    | uninit => rw [hw] at hout; cases hout
    | val w =>
      rw [hw] at hout
      cases hout
      exact ⟨u, by simp [transformPiece, state?_eq_some.mpr hu, hw], hmark⟩
  | block m => exact withStream_congr xblock_ignoresMark h hp
  | range m => exact withStream_congr xrange_ignoresMark h hp

/-- So do the pieces of a message, one after the other. -/
theorem transformPieces_congr {s s' t' : State} {ps : List Piece} {o : List Byte} (h : s'.unmarked = s.unmarked)
    (hp : transformPieces ps s' = some (o, t')) : ∃ t, transformPieces ps s = some (o, t) ∧ t'.unmarked = t.unmarked := by
  induction ps generalizing s s' o with
  | nil => cases hp; exact ⟨s, rfl, h⟩
  | cons p ps ih =>
    obtain ⟨⟨o₁, u'⟩, hp₁, hrest⟩ := Option.bind_eq_some_iff.mp hp
    obtain ⟨⟨o₂, v'⟩, hp₂, hout⟩ := Option.map_eq_some_iff.mp hrest
    cases hout
    obtain ⟨u, hu, hmark⟩ := transformPiece_congr h hp₁
    obtain ⟨v, hv, hmark'⟩ := ih hmark hp₂
    exact ⟨v, by simp [transformPieces, hu, hv], hmark'⟩

/-! ### The bytes transformed since INIT or RESET (R181) -/

/-- From position 0 the pieces move the counter and the cursor by the length of the message, whether the marker is set or
not: without it the engine stands past position 0 as `transformPieces_of_keystreamXor` asks. -/
theorem transformPieces_of_atStart {z : State} {k : KeyToken} {iv : List Byte} {pieces : List Piece} (hstart : z.AtStart iv)
    (hsound : z.Sound) (hkey : z.key = .token k) (hans : collaboratorAnswers z.cfg k)
    (hfit : piecesFit z.cfg.blockSize pieces) (hlen : (messageOf pieces).length < 2 ^ 64) :
    ∃ o t, transformPieces pieces z = some (o, t) ∧ t.cfg = z.cfg ∧ t.iv = .val iv ∧
      t.ctr = .val (addn iv ((messageOf pieces).length / z.cfg.blockSize : Nat)) ∧
      t.cur = .val ((messageOf pieces).length % z.cfg.blockSize) := by
  have hstands : z.unmarked.StandsPast k iv iv 0 0 :=
    State.AtStart.standsPast hstart { hsound.toShape with } rfl hkey
  obtain ⟨o, ho⟩ := exists_keystreamXor (l := messageOf pieces) fun j _ =>
    keystreamByte_of_answers iv 0 j hsound.blockSize_pos hstands.ctr_length hans
  obtain ⟨u, hu, hend, hcfg, -⟩ := transformPieces_of_keystreamXor hstands hfit hlen ho
  obtain ⟨t, ht, hmark⟩ := transformPieces_congr (s := z) (s' := z.unmarked) rfl hu
  have hctr := hend.ctr
  have hcur := hend.cur
  simp only [Nat.zero_add, hcfg] at hctr hcur
  exact ⟨o, t, ht, (congrArg State.cfg hmark).symm.trans hcfg, (congrArg State.iv hmark).symm.trans hend.iv,
    (congrArg State.ctr hmark).symm.trans hctr, (congrArg State.cur hmark).symm.trans hcur⟩

/-- Settles O42: the position is the length of the message, and GETPOS reports the position. -/
theorem positionCountsTransformedBytes : Obligations.PositionCountsTransformedBytes := by
  intro s z i k pieces hs hwindow hi h herr hkey hans hfit hlen hspace
  obtain ⟨iv, hstart⟩ := exec_atStart hi h herr
  obtain ⟨hcfg, -⟩ := exec_hostSideKept h
  have hsound := exec_sound (inv_iff.mp hs).1 h
  rw [← hcfg] at hwindow hans hfit hspace
  have hbs := hsound.blockSize_pos
  have ⟨hiv, _, _⟩ := hstart
  have hivlen := hsound.iv_length iv hiv
  obtain ⟨o, t, ht, htcfg, htiv, htctr, htcur⟩ := transformPieces_of_atStart hstart hsound hkey hans hfit hlen
  refine ⟨o, t, _, ht, exec_getpos_of_written htiv htctr htcur, congrArg Reg.val (BitVec.eq_of_toNat_eq ?_)⟩
  rw [htcfg, hwindow, positionResult_toNat _ hivlen ((addn_length _ _).trans hivlen),
    logicalPosition_position _ hbs hivlen, Nat.mod_eq_of_lt hspace, BitVec.toNat_ofNat]

end Sys2Proof.Machine
end

section
/-! PROOF. Errors and model faults (60_exceptions.md): the outcome codes a command can report (R190) and its marker `FAULT`
(R197), what stands after an ILLEGAL word (R199), after LengthError (R195) and after a failing call (R196), and the keystream
load without a key (R203). -/

namespace Sys2Proof.Machine

/-! ### What a part of a command raises, and the marker it leaves -/

/-- Running `r` where `FAULT` is `m` raises no error outside `errs`, and sets `FAULT` exactly with CollaboratorError (R190,
R197). -/
def Res.Marks {α : Type} (r : Res α) (m : Bool) (errs : List Err) : Prop :=
  r.Ensures (fun _ t => t.faultMark = m) (fun e t => e ∈ errs ∧ t.faultMark = (m || e == .collab))

section
variable {α β : Type} {m : Bool} {errs errs' : List Err}

theorem Res.Marks.bind {r : Res β} {k : β → State → Res α} (h : r.Marks m errs)
    (hk : ∀ b s, s.faultMark = m → (k b s).Marks m errs) : (r.bind k).Marks m errs :=
  Res.Ensures.bind h hk

theorem Res.Marks.mono {r : Res α} (h : r.Marks m errs) (hsub : errs ⊆ errs') : r.Marks m errs' :=
  Res.Ensures.mono h (fun _ _ ht => ht) (fun _ _ ⟨he, ht⟩ => ⟨hsub he, ht⟩)

theorem raiseCollab_marks (v : CollabErrVal) (s : State) : (raiseCollab v s : Res α).Marks m [.collab] :=
  ⟨List.mem_singleton_self _, (Bool.or_true m).symm⟩

end

theorem callInit_marks (k : KeyToken) (s : State) : (callInit k s).Marks s.faultMark [.collab] := by
  rcases callInit_cases k s with ⟨_, e⟩ | ⟨v, _, e⟩ <;> rw [e]
  · rfl
  · exact raiseCollab_marks v _

theorem ksload_marks (s : State) : (ksload s).Marks s.faultMark [.collab] := by
  rcases ksload_cases s with ⟨_, e⟩ | ⟨_, _, _, e⟩ | ⟨ctr, k, b, _, _, _, e⟩ | ⟨ctr, k, v, _, _, _, e⟩ <;> rw [e]
  · trivial
  · trivial
  · rfl
  · exact raiseCollab_marks v _

theorem advance_marks (s : State) : (advance s).Marks s.faultMark [.collab] := by
  rcases advance_cases s with ⟨_, _, _, e⟩ | ⟨_, _, _, _, _, e⟩ | ⟨f, e⟩ <;> rw [e]
  · rfl
  · rfl
  · trivial

theorem skipAdj_marks (n : Int) (s : State) : (skipAdj n s).Marks s.faultMark [.collab] := by
  rcases skipAdj_cases n s with ⟨_, _, _, _, e⟩ | ⟨f, e⟩ <;> rw [e]
  · rfl
  · trivial

theorem resetBody_marks (s : State) : (resetBody s).Marks s.faultMark [.collab] := by
  rcases resetBody_cases s with ⟨_, e⟩ | ⟨_, _, _, e⟩ | ⟨_, v, _, _, e⟩ <;> rw [e]
  · trivial
  · rfl
  · exact raiseCollab_marks v _

theorem resetAfterInit_marks (s : State) : (resetAfterInit s).Marks s.faultMark [.collab] := by
  rcases resetAfterInit_cases s with ⟨_, e⟩ | ⟨_, _, _, e⟩ | ⟨_, e⟩ <;> rw [e]
  · trivial
  · trivial
  · exact resetBody_marks s

theorem byteBody_marks (b : Byte) (s : State) : (byteBody b s).Marks s.faultMark [.collab] := by
  refine readReg_ensures fun cur _ => ?_
  have hload : (if cur = 0 then ksload s else .ok () s).Marks s.faultMark [.collab] := by
    split
    · exact ksload_marks s
    · rfl
  refine hload.bind fun _ s1 h1 => ?_
  have hxor : (xorByte b s1).Marks s.faultMark [.collab] :=
    (xorByte_unchanged b s1).mono (fun _ _ e => e ▸ h1) (fun _ _ => False.elim)
  exact hxor.bind fun o s2 h2 => (h2 ▸ advance_marks s2).bind fun _ s3 h3 => h3

theorem transformBytes_marks (l : List Byte) (s : State) : (transformBytes l s).Marks s.faultMark [.collab] := by
  induction l generalizing s with
  | nil => rfl
  | cons b l ih => exact (byteBody_marks b s).bind fun o s1 h1 => h1 ▸ ih (s1.deliver o)

theorem transformStream_marks (n : Nat) (w : OpWord) (s : State) :
    (transformStream n w s).Marks s.faultMark [.length, .collab] := by
  rcases transformStream_cases n w s with ⟨f, e⟩ | ⟨_, _, _, _, _, e⟩ | ⟨_, _, _, _, _, _, e⟩ <;> rw [e]
  · trivial
  · exact ⟨List.mem_cons_self, (Bool.or_false _).symm⟩
  · exact ((transformBytes_marks _ s).mono (List.subset_cons_self _ _)).bind fun _ s1 h1 => h1

theorem movement_marks (n : Int) (w : OpWord) (s : State) : (movement n w s).Marks s.faultMark [.collab] :=
  (skipAdj_marks n s).bind fun _ s1 h1 => (h1 ▸ ksload_marks s1).bind fun _ _ h2 => h2

theorem initBody_marks (k : Bool) (s : State) : (initBody k s).Marks s.faultMark [.collab] := by
  have hkey : (if k then callInit s.chan.key (s.setIv s.chan.iv) else .ok () (s.setIv s.chan.iv)).Marks s.faultMark
      [.collab] := by
    split
    · exact callInit_marks _ (s.setIv s.chan.iv)
    · rfl
  exact hkey.bind fun _ s2 h2 => (h2 ▸ resetBody_marks s2).bind fun _ _ h3 => h3

/-! ### The outcome codes of each command (R190) -/

/-- The errors that a command can raise: the "raised by" column of R190. -/
def raisableErrs : Instr → List Err
  | .reset | .xbyte _ | .skip | .seek => [.collab]
  | .init _ _ => [.config, .collab]
  | .xblock | .xrange => [.length, .collab]
  | .getpos => []

/-- A command is the end of a part that raises no other error than the command's own (R190). -/
theorem exec_eq_finish_of_marks (i : Instr) (s : State) :
    ∃ r, exec i s = finish r ∧ r.Marks s.faultMark (raisableErrs i) := by
  cases i with
  | reset => exact ⟨_, rfl, resetAfterInit_marks s⟩
  | init k v =>
    rcases execInit_cases k v s with ⟨_, e⟩ | ⟨_, e⟩
    · exact ⟨.raised .config s, e, List.mem_cons_self, (Bool.or_false _).symm⟩
    · exact ⟨_, e, (initBody_marks k s).mono (List.subset_cons_self _ _)⟩
  | xbyte data => exact ⟨_, rfl, (byteBody_marks data s).bind fun _ _ h1 => h1⟩
  | xblock => exact ⟨_, rfl, transformStream_marks _ _ s⟩
  | xrange => exact ⟨_, rfl, readReg_ensures fun w _ => transformStream_marks _ w s⟩
  | skip => exact ⟨_, rfl, readReg_ensures fun w _ => movement_marks _ w s⟩
  | seek =>
    exact ⟨_, rfl, readReg_ensures fun w _ => (resetAfterInit_marks s).bind fun _ s1 h1 => h1 ▸ movement_marks _ w s1⟩
  | getpos =>
    exact ⟨_, rfl, readReg_ensures fun _ _ => readReg_ensures fun _ _ => readReg_ensures fun _ _ =>
      (Res.ensures_ok () _).mpr rfl⟩

/-- How a command ends: it completes or raises one of its errors, and CollaboratorError alone sets `FAULT` (R190, R197). -/
theorem exec_outcome {i : Instr} {s t : State} (h : exec i s = .next t) :
    ∃ e, (e = .ok ∨ e ∈ raisableErrs i) ∧ t.err = errCode e ∧ t.faultMark = (s.faultMark || e == .collab) := by
  obtain ⟨r, hr, hmarks⟩ := exec_eq_finish_of_marks i s
  rcases finish_next_of_ensures hmarks (hr.symm.trans h) with ⟨u, hu, rfl⟩ | ⟨e, u, ⟨he, hu⟩, rfl⟩
  · exact ⟨.ok, .inl rfl, rfl, hu.trans (Bool.or_false _).symm⟩
  · exact ⟨e, .inr he, rfl, hu⟩

theorem errCode_beq_three (e : Err) : (errCode e == 3) = (e == .collab) := by cases e <;> rfl

/-- Settles O48, from the errors that each command can raise. -/
theorem outcomeCodes : Obligations.OutcomeCodes := by
  intro i s t h
  obtain ⟨e, he, herr, -⟩ := exec_outcome h
  rw [herr]
  rcases he with rfl | he
  · simp [errCode]
  cases i with
  | reset | xbyte _ | skip | seek =>
    obtain rfl := List.mem_singleton.mp he
    simp [errCode]
  | init k v =>
    obtain rfl | rfl := List.mem_pair.mp he
    · simp [errCode]
    · simp [errCode]
  | xblock | xrange =>
    obtain rfl | rfl := List.mem_pair.mp he
    · simp [errCode]
    · simp [errCode]
  | getpos => cases he

/-! ### The marker `FAULT` (R197) -/

theorem exec_faultMark {i : Instr} {s t : State} (h : exec i s = .next t) : t.faultMark = (s.faultMark || (t.err == 3)) := by
  obtain ⟨e, -, herr, hmark⟩ := exec_outcome h
  rw [herr, errCode_beq_three, hmark]

/-- No host access clears the marker (R48; of the reset pulse, log 9). -/
theorem ServeNext.faultMark {s t : State} {a : HostAction} (hs : s.faultMark = true) (h : ServeNext s a t) :
    t.faultMark = true := by
  cases h with
  | command _ h =>
    rw [exec_faultMark h]
    exact Bool.or_eq_true_iff.mpr (.inl hs)
  | illegal => exact hs
  | operand v => exact hs
  | ignored => exact hs
  | read r => exact hs
  | pulse => exact hs

/-- Settles O49: a step serves one host access, or waits. -/
theorem faultMarkerIsSticky : Obligations.FaultMarkerIsSticky := by
  refine ⟨fun i s t h => exec_faultMark h, fun s t h hs => ?_⟩
  rcases step_next h with rfl | ⟨a, rest, -, h⟩
  · exact hs
  · exact ServeNext.faultMark (s := s.withHost rest) hs h

/-! ### What an error leaves (R195, R196, R199) -/

/-- Settles O7: the decoder's answer is all that the step acts on (R200). -/
theorem illegalWordOnlyWritesErr : Obligations.IllegalWordOnlyWritesErr := by
  intro s w ch rest why hs hw
  exact (step_cons hs).trans (runWord_illegal _ hw)

/-- Settles O26: BYTE_BODY ends at its load. -/
theorem xbyteAbortsAtFailingLoad : Obligations.XbyteAbortsAtFailingLoad := by
  intro s data ctr k v hctr hcur hkey hfail
  refine ⟨freeBlock s.cfg.blockSize (s.freeCount + 1), Config.freeBuffering s.freeCount, freeBlock_length _ _, ?_⟩
  rw [exec_xbyte_of_raiseCollab (byteBody_of_failure data hctr hcur hkey hfail)]
  rfl

theorem shortChannel_iff {ch : Channels} {n : Nat} :
    shortChannel ch n = true ↔ ch.input.length < n ∨ ch.outCap < n := by
  simp [shortChannel]

section
variable {s : State} {ctr : List Byte} {c n : Nat} (w : OpWord)

/-- The length check stands before every effect (R151, R157). -/
theorem transformStream_of_short (hcur : s.cur = .val c) (hctr : s.ctr = .val ctr)
    (hshort : s.chan.input.length < n ∨ s.chan.outCap < n) : transformStream n w s = .raised .length s := by
  rw [transformStream, hcur, readReg_val, hctr, readReg_val, if_pos (shortChannel_iff.mpr hshort)]

theorem transformStream_of_room (hcur : s.cur = .val c) (hctr : s.ctr = .val ctr)
    (hin : n ≤ s.chan.input.length) (hcap : n ≤ s.chan.outCap) :
    transformStream n w s = (transformBytes (s.chan.input.take n) s).bind fun _ s1 => .ok () (s1.setResult w) := by
  have hroom : ¬ shortChannel s.chan n = true := mt shortChannel_iff.mp (by omega)
  rw [transformStream, hcur, readReg_val, hctr, readReg_val, if_neg hroom]

end

/-- Settles O31: the stream command raises LengthError from the state it starts in. -/
theorem lengthErrorLeavesState : Obligations.LengthErrorLeavesState := by
  intro s i n c w ctr hcmd hcur hctr hshort
  rw [exec_streamCommand hcmd, transformStream_of_short w hcur hctr hshort]
  rfl

/-- The load of SEEK fails: the movement from `(IV, 0)` is made before it (R172, R196). -/
theorem exec_seek_of_loadFailure {s : State} {w : OpWord} {iv : List Byte} {k : KeyToken} {v : CollabErrVal}
    (hopnd : s.opnd = .val w) (hiv : s.iv = .val iv) (hdone : s.initDone = true) (hkey : s.key = .token k)
    (hanswer : resetFailure s.cfg s.freeCount = none)
    (hfail : eKey s.cfg k (addn iv (w.toNat / s.cfg.blockSize : Nat)) = .failed v) :
    exec .seek s = .next ((((((s.restarted iv).setCtr (addn iv (w.toNat / s.cfg.blockSize : Nat))).setCur
      (w.toNat % s.cfg.blockSize)).noteCall (.process (addn iv (w.toNat / s.cfg.blockSize : Nat)))).loseKs.markCollab
        v).setErr .collab) := by
  rw [exec_seek_of_reset hopnd hiv hdone hanswer,
    finish_movement_of_failure (s := s.restarted iv) w rfl rfl hkey (skipTarget_position s.cfg w.toNat iv) hfail]

/-- Settles O36, by the call that fails. -/
theorem seekAbortsAtFailingCall : Obligations.SeekAbortsAtFailingCall := by
  refine fun s w iv v hopnd hiv hdone => ⟨fun hreset => ?_, fun k hkey hanswer hfail => ?_⟩
  · exact ⟨_, exec_seek_of_resetFailure hopnd hiv hdone hreset, rfl, rfl, rfl, rfl, rfl, rfl, rfl, rfl⟩
  · have hexec := exec_seek_of_loadFailure hopnd hiv hdone hkey hanswer hfail
    have hresult := errorsLeaveResult _ _ _ hexec (by decide : errCode .collab ≠ 0)
    exact ⟨_, _, hexec, rfl, rfl, rfl, freeBlock_length _ _, hresult, rfl, rfl, rfl⟩

/-! ### A keystream load without a key (R203) -/

section
variable {s : State} {ctr : List Byte} {c : Nat}

theorem ksload_of_keyAbsent (hctr : s.ctr = .val ctr) (hkey : s.key = .absent) : ksload s = .stop .keyAbsent := by
  rw [ksload, hctr, readReg_val, hkey]

theorem byteBody_of_keyAbsent (b : Byte) (hctr : s.ctr = .val ctr) (hcur : s.cur = .val 0) (hkey : s.key = .absent) :
    byteBody b s = .stop .keyAbsent := by
  rw [byteBody, hcur, readReg_val, if_pos rfl, ksload_of_keyAbsent hctr hkey, Res.bind_stop]

/-- The load comes after every adjustment (R166). -/
theorem movement_of_keyAbsent (n : Int) (w : OpWord) (hctr : s.ctr = .val ctr) (hcur : s.cur = .val c)
    (hkey : s.key = .absent) : movement n w s = .stop .keyAbsent := by
  rw [movement_of_target w hctr hcur rfl, ksload_of_keyAbsent (s := (s.setCtr _).setCur _) rfl hkey, Res.bind_stop]

end

/-- No key is present, and one of the next `n` bytes meets `CUR = 0`: the first, or one past the rest of the block that
stands in `KS` (R145). -/
structure State.LacksKeyFor (s : State) (n : Nat) : Prop where
  key : s.key = .absent
  ctr_written : ∃ ctr, s.ctr = .val ctr
  meets_load : (s.cur = .val 0 ∧ 0 < n) ∨ ∃ c ks, s.cur = .val c ∧ 0 < c ∧ c < s.cfg.blockSize ∧ s.ks = .val ks ∧
    ks.length = s.cfg.blockSize ∧ s.cfg.blockSize - c < n

/-- A byte inside the block brings the load one byte nearer (R120). -/
theorem State.LacksKeyFor.advanced {s : State} {ctr ks : List Byte} {c n : Nat} (o : Byte) (hkey : s.key = .absent)
    (hks : s.ks = .val ks) (hlen : ks.length = s.cfg.blockSize) (hc : c < s.cfg.blockSize)
    (hn : s.cfg.blockSize - c < n + 1) : ((s.advanced ctr c).deliver o).LacksKeyFor n := by
  refine ⟨hkey, ⟨_, rfl⟩, ?_⟩
  by_cases hlast : c + 1 = s.cfg.blockSize
  · exact .inl ⟨congrArg Reg.val (if_pos hlast), by omega⟩
  · refine .inr ⟨c + 1, ks, congrArg Reg.val (if_neg hlast), Nat.succ_pos c, ?_, hks, hlen, ?_⟩
    · exact Nat.lt_of_le_of_ne hc hlast
    · exact (by omega : s.cfg.blockSize - (c + 1) < n)

theorem transformBytes_of_keyAbsent {s : State} {l : List Byte} (h : s.LacksKeyFor l.length) :
    transformBytes l s = .stop .keyAbsent := by
  induction l generalizing s with
  | nil =>
    obtain ⟨-, -, ⟨-, hn⟩ | ⟨c, ks, -, -, -, -, -, hn⟩⟩ := h
    · exact absurd hn (Nat.not_lt_zero _)
    · exact absurd hn (Nat.not_lt_zero _)
  | cons b l ih =>
    obtain ⟨hkey, ⟨ctr, hctr⟩, ⟨hcur, -⟩ | ⟨c, ks, hcur, hpos, hlt, hks, hlen, hn⟩⟩ := h
    · rw [transformBytes, byteBody_of_keyAbsent b hctr hcur hkey, Res.bind_stop]
    · have hx := List.getElem?_eq_getElem (hlen.symm ▸ hlt : c < ks.length)
      rw [transformBytes, byteBody_of_loaded b hctr hcur hpos.ne' hks hx, Res.bind_ok]
      exact ih (.advanced _ hkey hks hlen hlt hn)

/-- A stream command with room stops at the first byte that needs a load. -/
theorem exec_streamCommand_of_keyAbsent {s : State} {cmd : Instr} {n c : Nat} {w : OpWord} {ctr : List Byte}
    (hcmd : streamCommand cmd s n w) (hctr : s.ctr = .val ctr) (hcur : s.cur = .val c) (hin : n ≤ s.chan.input.length)
    (hcap : n ≤ s.chan.outCap) (h : s.LacksKeyFor n) : exec cmd s = .fault .keyAbsent := by
  rw [← List.length_take_of_le hin] at h
  rw [exec_streamCommand hcmd, transformStream_of_room w hcur hctr hin hcap, transformBytes_of_keyAbsent h, Res.bind_stop,
    finish_stop]

theorem exec_of_opnd_uninit {s : State} (hopnd : s.opnd = .uninit) :
    exec .xrange s = .fault (.uninitRead .opnd) ∧ exec .skip s = .fault (.uninitRead .opnd) ∧
      exec .seek s = .fault (.uninitRead .opnd) := by
  refine ⟨?_, (skipCommand s).2 hopnd, ?_⟩
  · rw [exec, execXrange, hopnd, readReg_uninit, finish_stop]
  · rw [exec, execSeek, hopnd, readReg_uninit, finish_stop]

/-- Settles O46, by the command that reads `OPND` or needs the load. -/
theorem undefinedReadsFault : Obligations.UndefinedReadsFault := by
  refine ⟨fun s hopnd => exec_of_opnd_uninit hopnd, fun s ctr hkey hctr => ⟨fun data hcur => ?_, fun c w hcur hopnd => ?_⟩,
    fun s iv w hkey hopnd hiv hdone hanswer => ?_, fun s cmd n c w ctr ks hkey hcmd hctr hcur hin hcap hload => ?_⟩
  · rw [exec, execXbyte, byteBody_of_keyAbsent data hctr hcur hkey, Res.bind_stop, finish_stop]
  · rw [exec_skip_of_opnd hopnd, movement_of_keyAbsent _ w hctr hcur hkey, finish_stop]
  · rw [exec_seek_of_reset hopnd hiv hdone hanswer, movement_of_keyAbsent (s := s.restarted iv) _ w rfl rfl hkey,
      finish_stop]
  · refine exec_streamCommand_of_keyAbsent hcmd hctr hcur hin hcap ⟨hkey, ⟨ctr, hctr⟩, ?_⟩
    rcases hload with ⟨rfl, hn⟩ | ⟨hpos, hlt, hks, hlen, hn⟩
    · exact .inl ⟨hcur, hn⟩
    · exact .inr ⟨c, ks, hcur, hpos, hlt, hks, hlen, hn⟩

end Sys2Proof.Machine
end


section
/-! PROOF. The hardware reset input (70_reset_and_hazards.md R216), the engine before its first good INIT (R218) and the period
of the keystream (R225). -/

namespace Sys2Proof.Machine

/-! ### The hardware reset input -/

theorem step_resetInput {s : State} {rest : List HostAction} (hs : s.host = .resetInput :: rest) :
    step s = if s.cfg.hasResetInput then .next (hardwareReset (s.withHost rest)) else .refused .noResetInput :=
  step_cons hs

/-- Settles O10: a pulse is a power-on that keeps what belongs to the collaborator, the host and the model. -/
theorem hardwareResetInput : Obligations.HardwareResetInput := by
  intro s rest hs
  rw [step_resetInput hs]
  refine ⟨fun hinput => ⟨_, if_pos hinput, ?_⟩, fun hnone => if_neg (Bool.eq_false_iff.mp hnone)⟩
  exact ⟨rfl, rfl, rfl, rfl, rfl, rfl, rfl, rfl, rfl, rfl, rfl, rfl, rfl⟩

/-! ### Before the first good INIT -/

/-- Running `r` stops with a model fault of the kind `P`. -/
def Res.Stops {α : Type} (r : Res α) (P : Fault → Prop) : Prop := ∃ f, P f ∧ r = .stop f

section
variable {α β : Type} {P : Fault → Prop}

theorem Res.Stops.bind {r : Res β} (k : β → State → Res α) (h : r.Stops P) : (r.bind k).Stops P := by
  obtain ⟨f, hf, rfl⟩ := h
  exact ⟨f, hf, rfl⟩

/-- A register that is `uninit` stops the expression (R21); one that is not leaves it to the rest. -/
theorem readReg_stops {el : Element} {r : Reg β} {k : β → Res α} (hP : P (.uninitRead el))
    (hk : ∀ a, r = .val a → (k a).Stops P) : (readReg el r k).Stops P := by
  cases r with
  | uninit => exact ⟨_, hP, rfl⟩
  | val a => exact hk a rfl

theorem readReg_stops_of_uninit {el : Element} {r : Reg β} (k : β → Res α) (hP : P (.uninitRead el)) (hr : r = .uninit) :
    (readReg el r k).Stops P := by
  rw [hr]
  exact ⟨_, hP, rfl⟩

theorem Res.Stops.finish {r : Res Unit} (h : r.Stops P) : ∃ f, P f ∧ finish r = .fault f := by
  obtain ⟨f, hf, rfl⟩ := h
  exact ⟨f, hf, rfl⟩

end

/-- Where `CUR` is `uninit` and RESET stops, so does every command but INIT: SEEK at its RESET body, the others at the latest
where they read `CUR` (R218). -/
theorem exec_faults_of_cur_uninit {P : Fault → Prop} {s : State} {i : Instr} (hP : ∀ e, P (.uninitRead e))
    (hcur : s.cur = .uninit) (hreset : (resetAfterInit s).Stops P) (hi : ∀ k v, i ≠ .init k v) :
    ∃ f, P f ∧ exec i s = .fault f := by
  have hstream (n : Nat) (w : OpWord) : (transformStream n w s).Stops P := readReg_stops_of_uninit _ (hP .cur) hcur
  have hskip (n : Int) : (skipAdj n s).Stops P := readReg_stops_of_uninit _ (hP .cur) hcur
  have hbyte (b : Byte) : (byteBody b s).Stops P := readReg_stops_of_uninit _ (hP .cur) hcur
  cases i with
  | reset => exact hreset.finish
  | init k v => exact absurd rfl (hi k v)
  | xbyte data => exact ((hbyte data).bind _).finish
  | xblock => exact (hstream _ _).finish
  | xrange => exact (readReg_stops (hP .opnd) fun w _ => hstream _ w).finish
  | skip => exact (readReg_stops (hP .opnd) fun w _ => (hskip _).bind _).finish
  | seek => exact (readReg_stops (hP .opnd) fun w _ => hreset.bind _).finish
  | getpos =>
    exact (readReg_stops (hP .ctr) fun _ _ => readReg_stops (hP .iv) fun _ _ =>
      readReg_stops_of_uninit _ (hP .cur) hcur).finish

theorem resetAfterInit_stops {s : State} (hdone : s.initDone = false) : (resetAfterInit s).Stops fun _ => True := by
  rcases resetAfterInit_cases s with ⟨_, e⟩ | ⟨_, _, _, e⟩ | ⟨hdone', _⟩
  · exact ⟨_, trivial, e⟩
  · exact ⟨_, trivial, e⟩
  · exact Bool.noConfusion (hdone.symm.trans hdone')

/-- Under the invariant `CUR` is `uninit` until an INIT has completed (R218; log 24). -/
theorem State.Inv.cur_uninit {s : State} (hs : s.Inv) (hdone : s.initDone = false) : s.cur = .uninit := by
  cases hcur : s.cur with
  | uninit => rfl
  | val c => exact Bool.noConfusion (hdone.symm.trans (hs.cur_init c hcur))

/-- Settles O45: before any INIT each stop is the read of an `uninit` element; later RESET and SEEK can stop by R218 itself. -/
theorem uninitialisedEngineFaults : Obligations.UninitialisedEngineFaults := by
  refine ⟨fun s i hiv _ hcur hi => ?_, fun s i hs hdone hi => ?_⟩
  · have hreset : (resetAfterInit s).Stops fun f => ∃ e, f = .uninitRead e :=
      ⟨_, ⟨.iv, rfl⟩, resetAfterInit_of_uninit hiv⟩
    obtain ⟨_, ⟨e, rfl⟩, hexec⟩ := exec_faults_of_cur_uninit (fun e => ⟨e, rfl⟩) hcur hreset hi
    exact ⟨e, hexec⟩
  · obtain ⟨f, -, hexec⟩ :=
      exec_faults_of_cur_uninit (fun _ => trivial) (hs.cur_uninit hdone) (resetAfterInit_stops hdone) hi
    exact ⟨f, hexec⟩

/-! ### The period of the keystream -/

/-- A turn of the position is a turn of the block counter, which `bytes` does not see (R13, R62). -/
theorem keystreamByte_add_positionSpace {c : Config} (k : KeyToken) (iv : List Byte) (p : Nat) (hbs : 1 ≤ c.blockSize) :
    keystreamByte c k iv (p + positionSpace c.blockSize) = keystreamByte c k iv p := by
  have hblock : (p + positionSpace c.blockSize) / c.blockSize = p / c.blockSize + counterSpace c.blockSize :=
    Nat.add_mul_div_right p _ hbs
  have hindex : (p + positionSpace c.blockSize) % c.blockSize = p % c.blockSize := Nat.add_mul_mod_self_right p _ _
  have hcounter : bytesOf c.blockSize ((be iv : Int) + (p / c.blockSize + counterSpace c.blockSize : Nat)) =
      bytesOf c.blockSize ((be iv : Int) + (p / c.blockSize : Nat)) := by
    refine bytesOf_congr (Int.ModEq.add_left _ ?_)
    rw [Nat.cast_add]
    exact Int.add_modEq_right
  rw [keystreamByte, hblock, hindex, hcounter, ← keystreamByte]

/-- Settles O44. -/
theorem keystreamIsPeriodic : Obligations.KeystreamIsPeriodic :=
  ⟨fun _ k iv p hbs => keystreamByte_add_positionSpace k iv p hbs, by decide, by decide⟩

end Sys2Proof.Machine
end

section
/-! PROOF. How often each command calls the collaborator (70_reset_and_hazards.md R232): the calls that each part of a command
makes when it completes, and the sums of them that the commands make. -/

namespace Sys2Proof.Machine

/-! ### Counting calls -/

/-- How many `init`, `reset` and `processBlock` calls a record of calls holds: a row of R232's table. -/
def callCounts (l : List CollabCall) : Nat × Nat × Nat := (initCalls l, resetCalls l, processCalls l)

theorem callCounts_append (l l' : List CollabCall) : callCounts (l ++ l') = callCounts l + callCounts l' := by
  simp only [callCounts, initCalls, resetCalls, processCalls, List.countP_append, Prod.mk_add_mk]

/-- On the way from `s` to `t` calls in the numbers `n` were made. -/
def State.Made (s t : State) (n : Nat × Nat × Nat) : Prop := ∃ l, t.calls = l ++ s.calls ∧ callCounts l = n

theorem State.Made.of_calls_eq {s t : State} (h : t.calls = s.calls) : s.Made t 0 := ⟨[], h, rfl⟩

theorem State.Made.trans {s t u : State} {m n : Nat × Nat × Nat} (h : s.Made t m) (h' : t.Made u n) :
    s.Made u (m + n) := by
  obtain ⟨l, hl, rfl⟩ := h
  obtain ⟨l', hl', rfl⟩ := h'
  exact ⟨l' ++ l, by rw [hl', hl, List.append_assoc], by rw [callCounts_append, add_comm]⟩

/-- Running `r` from `s` makes calls in the numbers `n` when it completes, and can fail by CollaboratorError alone. -/
def Res.Makes {α : Type} (r : Res α) (s : State) (n : Nat × Nat × Nat) : Prop :=
  r.Ensures (fun _ t => s.Made t n) (fun e _ => e = .collab)

theorem Res.Makes.bind {α β : Type} {r : Res β} {k : β → State → Res α} {s : State} {m n : Nat × Nat × Nat}
    (h : r.Makes s m) (hk : ∀ b t, (k b t).Makes t n) : (r.bind k).Makes s (m + n) :=
  Res.Ensures.bind h fun b t ht => (hk b t).mono (fun _ _ hu => ht.trans hu) (fun _ _ he => he)

/-! ### The parts of a command -/

theorem callInit_makes (k : KeyToken) (s : State) : (callInit k s).Makes s (1, 0, 0) := by
  rcases callInit_cases k s with ⟨_, e⟩ | ⟨v, _, e⟩ <;> rw [e]
  · exact ⟨[.init true k], rfl, rfl⟩
  · rfl

theorem resetBody_makes (s : State) : (resetBody s).Makes s (0, 1, 0) := by
  rcases resetBody_cases s with ⟨_, e⟩ | ⟨iv, _, _, e⟩ | ⟨iv, v, _, _, e⟩ <;> rw [e]
  · trivial
  · exact ⟨[.reset], rfl, rfl⟩
  · rfl

theorem resetAfterInit_makes (s : State) : (resetAfterInit s).Makes s (0, 1, 0) := by
  rcases resetAfterInit_cases s with ⟨_, e⟩ | ⟨_, _, _, e⟩ | ⟨_, e⟩ <;> rw [e]
  · trivial
  · trivial
  · exact resetBody_makes s

theorem initBody_makes (k : Bool) (s : State) : (initBody k s).Makes s (if k then 1 else 0, 1, 0) := by
  have htail (u : State) : ((resetBody u).bind fun _ s3 => .ok () s3.setInitDone).Makes u (0, 1, 0) :=
    Res.Ensures.bind (resetBody_makes u) fun _ _ hu => hu
  cases k with
  | false => exact htail (s.setIv s.chan.iv)
  | true => exact (callInit_makes s.chan.key (s.setIv s.chan.iv)).bind fun _ u => htail u

/-- KSLOAD, which also leaves the cursor where it is (R118). -/
theorem ksload_makes (s : State) :
    (ksload s).Ensures (fun _ t => s.Made t (0, 0, 1) ∧ t.cur = s.cur ∧ t.cfg = s.cfg) (fun e _ => e = .collab) := by
  rcases ksload_cases s with ⟨_, e⟩ | ⟨_, _, _, e⟩ | ⟨ctr, k, b, _, _, _, e⟩ | ⟨ctr, k, v, _, _, _, e⟩ <;> rw [e]
  · trivial
  · trivial
  · exact ⟨⟨[.process ctr], rfl, rfl⟩, rfl, rfl⟩
  · rfl

theorem movement_makes (n : Int) (w : OpWord) (s : State) : (movement n w s).Makes s (0, 0, 1) := by
  rw [movement]
  rcases skipAdj_cases n s with ⟨ctr, cur, _, _, e⟩ | ⟨f, e⟩ <;> rw [e]
  · exact (ksload_makes _).bind fun _ t ht => ht.1
  · trivial

/-- ADVANCE counts the cursor up modulo BS (R120). -/
theorem advance_cur {s : State} {c : Nat} (hcur : s.cur = .val c) (hc : c < s.cfg.blockSize) :
    (advance s).Ensures (fun _ t => t.calls = s.calls ∧ t.cur = .val ((c + 1) % s.cfg.blockSize) ∧ t.cfg = s.cfg)
      (fun e _ => e = .collab) := by
  rcases advance_cases s with ⟨cur, hcur', hne, e⟩ | ⟨cur, ctr, hcur', _, hlast, e⟩ | ⟨f, e⟩ <;> rw [e]
  · cases hcur.symm.trans hcur'
    exact ⟨rfl, congrArg Reg.val (Nat.mod_eq_of_lt (by omega)).symm, rfl⟩
  · cases hcur.symm.trans hcur'
    exact ⟨rfl, congrArg Reg.val (by rw [hlast, Nat.mod_self]), rfl⟩
  · trivial

/-- BYTE_BODY calls the collaborator exactly at `CUR = 0`, whatever came before (R145, R146). -/
theorem byteBody_makes (b : Byte) {s : State} {c : Nat} (hcur : s.cur = .val c) (hc : c < s.cfg.blockSize) :
    (byteBody b s).Ensures
      (fun _ t => s.Made t (0, 0, if c = 0 then 1 else 0) ∧ t.cur = .val ((c + 1) % s.cfg.blockSize) ∧ t.cfg = s.cfg)
      (fun e _ => e = .collab) := by
  have hload : (if c = 0 then ksload s else .ok () s).Ensures
      (fun _ t => s.Made t (0, 0, if c = 0 then 1 else 0) ∧ t.cur = s.cur ∧ t.cfg = s.cfg) (fun e _ => e = .collab) := by
    split
    · exact ksload_makes s
    · exact ⟨.of_calls_eq rfl, rfl, rfl⟩
  rw [byteBody, hcur, readReg_val]
  refine hload.bind fun _ s1 ⟨hmade, hcur1, hcfg1⟩ => ?_
  refine ((xorByte_unchanged b s1).mono (fun _ _ e => e) (fun _ _ => False.elim)).bind fun o s2 e => ?_
  subst e
  refine (advance_cur (hcur1.trans hcur) (hcfg1 ▸ hc)).bind fun _ s3 ⟨hcalls, hcur3, hcfg3⟩ => ?_
  exact ⟨hmade.trans (.of_calls_eq hcalls), hcfg1 ▸ hcur3, hcfg3.trans hcfg1⟩

/-! ### The loop of the stream commands -/

/-- How many of `n` bytes from cursor `c` on meet `CUR = 0` (R158). -/
def blockStarts (bs c n : Nat) : Nat := ((List.range n).filter fun j => (c + j) % bs = 0).length

theorem blockStarts_succ (bs c n : Nat) :
    blockStarts bs c (n + 1) = blockStarts bs c n + if (c + n) % bs = 0 then 1 else 0 := by
  rw [blockStarts, List.range_succ, List.filter_append, List.length_append, ← blockStarts]
  by_cases h : (c + n) % bs = 0 <;> simp [h]

theorem blockStarts_blockSize {bs c : Nat} (hc : c < bs) : blockStarts bs c bs = 1 :=
  (streamLoads_length bs [] c bs).symm.trans (congrArg List.length (streamLoads_block [] hc))

/-- `t` is reached from `s`, which stood at cursor `c`, by moving `n` bytes. -/
structure State.Streamed (s t : State) (c n : Nat) : Prop where
  made : s.Made t (0, 0, blockStarts s.cfg.blockSize c n)
  cur : t.cur = .val ((c + n) % s.cfg.blockSize)
  cfg : t.cfg = s.cfg

theorem State.Streamed.start {s : State} {c : Nat} (hcur : s.cur = .val c) (hc : c < s.cfg.blockSize) :
    s.Streamed s c 0 :=
  ⟨.of_calls_eq rfl, by rw [Nat.add_zero, Nat.mod_eq_of_lt hc, hcur], rfl⟩

section
variable {s t : State} {c i : Nat}

theorem byteBody_streamed (b : Byte) (hbs : 1 ≤ s.cfg.blockSize) (h : s.Streamed t c i) :
    (byteBody b t).Ensures (fun _ u => s.Streamed u c (i + 1)) (fun e _ => e = .collab) := by
  have hlt : (c + i) % s.cfg.blockSize < t.cfg.blockSize := h.cfg.symm ▸ Nat.mod_lt _ hbs
  refine (byteBody_makes b h.cur hlt).mono (fun o u ⟨hmade, hcur, hcfg⟩ => ?_) (fun _ _ he => he)
  refine ⟨?_, ?_, hcfg.trans h.cfg⟩
  · rw [blockStarts_succ]
    exact h.made.trans hmade
  · rw [hcur, h.cfg, Nat.mod_add_mod, Nat.add_assoc]

theorem transformBytes_streamed (l : List Byte) (hbs : 1 ≤ s.cfg.blockSize) (h : s.Streamed t c i) :
    (transformBytes l t).Ensures (fun _ u => s.Streamed u c (i + l.length)) (fun e _ => e = .collab) := by
  induction l generalizing t i with
  | nil => exact h
  | cons b l ih =>
    refine (byteBody_streamed b hbs h).bind fun o u hu => ?_
    rw [List.length_cons, Nat.add_comm l.length, ← Nat.add_assoc]
    exact ih (t := u.deliver o) { hu with }

end

/-! ### The commands -/

/-- How a command that does not complete leaves the record of calls: CollaboratorError has its failing call, any other error
stands before every effect (R133, R151, R157). -/
def State.AbortedIn (s : State) (e : Err) (t : State) : Prop := e ≠ .ok ∧ (e = .collab ∨ t.calls = s.calls)

theorem State.AbortedIn.of_collab {s t : State} {e : Err} (he : e = .collab) : s.AbortedIn e t := by
  subst he
  exact ⟨Err.noConfusion, .inl rfl⟩

theorem State.AbortedIn.of_no_effect {s : State} {e : Err} (he : e ≠ .ok) : s.AbortedIn e s := ⟨he, .inr rfl⟩

theorem Res.Makes.abortedIn {α : Type} {r : Res α} {s : State} {n : Nat × Nat × Nat} (h : r.Makes s n) :
    r.Ensures (fun _ t => s.Made t n) s.AbortedIn :=
  h.mono (fun _ _ ht => ht) (fun _ _ => .of_collab)

theorem transformStream_makes (n : Nat) (w : OpWord) {s : State} (hs : s.Inv) :
    (transformStream n w s).Ensures
      (fun _ t => ∃ c, s.cur = .val c ∧ s.Made t (0, 0, blockStarts s.cfg.blockSize c n)) s.AbortedIn := by
  rcases transformStream_cases n w s with ⟨f, e⟩ | ⟨_, _, _, _, _, e⟩ | ⟨c, _, hcur, _, hin, _, e⟩ <;> rw [e]
  · trivial
  · exact .of_no_effect Err.noConfusion
  · have hloop := transformBytes_streamed (s.chan.input.take n) hs.blockSize_pos (.start hcur (hs.cur_lt c hcur))
    rw [List.length_take_of_le hin, Nat.zero_add] at hloop
    exact (hloop.mono (fun _ _ ht => ht) (fun _ _ => .of_collab)).bind fun _ _ ht => ⟨c, hcur, ht.made⟩

/-- The loads of an XRANGE in the state `s`; it does not complete where `CUR` or `OPND` is `uninit`. -/
def rangeLoads (s : State) : Nat :=
  match s.cur, s.opnd with
  | .val c, .val w => blockStarts s.cfg.blockSize c w.toNat
  | _, _ => 0

theorem rangeLoads_of_written {s : State} {c : Nat} {w : OpWord} (hcur : s.cur = .val c) (hopnd : s.opnd = .val w) :
    rangeLoads s = blockStarts s.cfg.blockSize c w.toNat := by
  rw [rangeLoads, hcur, hopnd]

/-- R232's table: the `init`, `reset` and `processBlock` calls of a command that completes, given in the state `s`. -/
def callTable (s : State) : Instr → Nat × Nat × Nat
  | .init k _ => (if k then 1 else 0, 1, 0)
  | .reset => (0, 1, 0)
  | .xbyte _ => (0, 0, if s.cur = .val 0 then 1 else 0)
  | .xblock => (0, 0, 1)
  | .xrange => (0, 0, rangeLoads s)
  | .skip => (0, 0, 1)
  | .seek => (0, 1, 1)
  | .getpos => (0, 0, 0)

/-- BYTE_BODY makes the calls of XBYTE's row. -/
theorem byteBody_callTable (b : Byte) {s : State} (hs : s.Inv) : (byteBody b s).Makes s (callTable s (.xbyte b)) := by
  cases hcur : s.cur with
  | uninit => rw [byteBody, hcur, readReg_uninit]; trivial
  | val c =>
    have hrow : callTable s (.xbyte b) = (0, 0, if c = 0 then 1 else 0) := by simp [callTable, hcur]
    rw [hrow]
    exact (byteBody_makes b hcur (hs.cur_lt c hcur)).mono (fun _ _ ht => ht.1) (fun _ _ he => he)

/-- Every command ends as its row of the table says, or aborts. -/
theorem exec_eq_finish_callTable (i : Instr) {s : State} (hs : s.Inv) :
    ∃ r, exec i s = finish r ∧ r.Ensures (fun _ t => s.Made t (callTable s i)) s.AbortedIn := by
  cases i with
  | reset => exact ⟨_, rfl, (resetAfterInit_makes s).abortedIn⟩
  | init k v =>
    rcases execInit_cases k v s with ⟨_, e⟩ | ⟨_, e⟩
    · exact ⟨.raised .config s, e, .of_no_effect Err.noConfusion⟩
    · exact ⟨_, e, (initBody_makes k s).abortedIn⟩
  | xbyte data => exact ⟨_, rfl, (byteBody_callTable data hs).abortedIn.bind fun _ _ ht => ht⟩
  | xblock =>
    refine ⟨_, rfl, (transformStream_makes _ _ hs).mono (fun _ t ⟨c, hcur, ht⟩ => ?_) (fun _ _ he => he)⟩
    rwa [blockStarts_blockSize (hs.cur_lt c hcur)] at ht
  | xrange =>
    refine ⟨_, rfl, readReg_ensures fun w hw => ?_⟩
    refine (transformStream_makes _ w hs).mono (fun _ t ⟨c, hcur, ht⟩ => ?_) (fun _ _ he => he)
    rw [callTable, rangeLoads_of_written hcur hw]
    exact ht
  | skip => exact ⟨_, rfl, readReg_ensures fun w _ => (movement_makes _ w s).abortedIn⟩
  | seek =>
    exact ⟨_, rfl, readReg_ensures fun w _ => ((resetAfterInit_makes s).bind fun _ u => movement_makes _ w u).abortedIn⟩
  | getpos =>
    exact ⟨_, rfl, readReg_ensures fun _ _ => readReg_ensures fun _ _ => readReg_ensures fun _ _ =>
      (Res.ensures_ok () _).mpr (.of_calls_eq rfl)⟩

theorem errCode_eq_zero_iff {e : Err} : errCode e = 0 ↔ e = .ok := by cases e <;> decide

/-- What a command that completes called (R232). -/
theorem exec_made {i : Instr} {s t : State} (hs : s.Inv) (h : exec i s = .next t) (herr : t.err = 0) :
    s.Made t (callTable s i) := by
  obtain ⟨r, hr, hcalls⟩ := exec_eq_finish_callTable i hs
  rcases finish_next_of_ensures hcalls (hr.symm.trans h) with ⟨u, hu, rfl⟩ | ⟨e, u, ⟨hne, -⟩, rfl⟩
  · exact hu
  · exact absurd (errCode_eq_zero_iff.mp herr) hne

/-- ConfigurationError and LengthError are raised before the first call (R133, R151, R157). -/
theorem exec_calls_of_errBeforeEffects {i : Instr} {s t : State} (hs : s.Inv) (h : exec i s = .next t)
    (herr : t.err = 1 ∨ t.err = 2) : t.calls = s.calls := by
  obtain ⟨r, hr, hcalls⟩ := exec_eq_finish_callTable i hs
  rcases finish_next_of_ensures hcalls (hr.symm.trans h) with ⟨u, -, rfl⟩ | ⟨e, u, ⟨-, rfl | hu⟩, rfl⟩
  · exact absurd herr (by decide : ¬ (errCode .ok = 1 ∨ errCode .ok = 2))
  · exact absurd herr (by decide : ¬ (errCode .collab = 1 ∨ errCode .collab = 2))
  · exact hu

/-- Settles O51, from the command's row of the table; GETPOS, whose row is zero, makes no call at all by R50. -/
theorem collaboratorCallCounts : Obligations.CollaboratorCallCounts := by
  intro i s t hs h
  refine ⟨exec_calls_of_errBeforeEffects hs h, fun herr => ?_⟩
  obtain ⟨l, hl, hrow⟩ := exec_made hs h herr
  refine ⟨l, hl, ?_⟩
  cases i with
  | getpos =>
    obtain ⟨w, rfl⟩ := execGetpos_next h
    have hnil : l = [] := List.self_eq_append_left.mp hl
    simp [hnil]
  | xrange =>
    obtain ⟨hinit, hreset, hprocess⟩ : initCalls l = 0 ∧ resetCalls l = 0 ∧ processCalls l = rangeLoads s := by
      simpa [callCounts, callTable] using hrow
    refine ⟨nofun, nofun, nofun, nofun, fun _ => ⟨hinit, hreset, fun c w hcur hopnd => ?_⟩, nofun, nofun, nofun⟩
    rw [hprocess, rangeLoads_of_written hcur hopnd]
    exact streamCalls_eq_length c w.toNat hs.blockSize_pos
  | init k v => simpa [callCounts, callTable] using hrow
  | reset | xbyte _ | xblock | skip | seek => simpa [callCounts, callTable] using hrow

end Sys2Proof.Machine
end
